-- ==== Sys2Proof/Word.lean ====
section
/-! DEFINITION. The widths of the block's values: bytes, the addresses of the three spaces (20 R40), names. -/

namespace Sys2Proof

/-- One byte: every access of the block, in every space, is one byte wide (20 R42). -/
abbrev Byte := BitVec 8

/-- A 16-bit address of the space IO (20 R40). -/
abbrev Port := BitVec 16

/-- A 32-bit address of the space SYS (20 R40). -/
abbrev Addr := BitVec 32

/-- A 64-bit device name, first character in bits 7:0 (20 R43(a)). -/
abbrev DevName := BitVec 64

end Sys2Proof
end

