-- ==== Sys2Proof/Config.lean ====
section
/-! DEFINITION. The constants of 00 R4, the parameters of 00 R5 as a record, their defaults, and the one free value. -/

namespace Sys2Proof

/-- `MAX_TRIES` of 00 R4: attempts of the read loop per block. -/
def maxTries : Nat := 3

/-- `BLOCK` of 00 R4: bytes in one block. -/
def blockSize : Nat := 512

/-- `SIZE_CODE` of 00 R4. -/
def sizeCode : Byte := 2

/-- `GAP_LENGTH` of 00 R4. -/
def gapLength : Byte := 0x1B

/-- `DATA_LENGTH` of 00 R4. -/
def dataLength : Byte := 0xFF

/-- A port group (00 glossary): the base port range of one controller. -/
inductive Group where
  | primary
  | secondary
  deriving DecidableEq, Repr

/-- A drive slot; `N_DRIVES` is 2 (00 R4). -/
inductive DriveId where
  | d0
  | d1
  deriving DecidableEq, Repr

/-- One entry (C, H, S, B) of the geometry table (10 R23). -/
structure Geometry where
  cyls : Nat
  heads : Nat
  sectors : Nat
  bytes : Nat
  deriving DecidableEq, Repr

/-- Every parameter of 00 R5, one field each. -/
structure Config where
  basePrimary : Port
  baseSecondary : Port
  offDor : Port
  offMsr : Port
  offData : Port
  offCcr : Port
  msrRqm : Byte
  msrDio : Byte
  dorDselMask : Byte
  dorNreset : Byte
  dorDmaen : Byte
  dorMotor : Vector Byte 4
  opcRead : Byte
  opcSeek : Byte
  opcRecal : Byte
  opcSensei : Byte
  st0IcMask : Byte
  rateDefault : Byte
  pollLimit : Nat
  pacePort : Port
  waitLimit : Option Nat
  dmaCh : BitVec 3
  dmaBufAddr : Addr
  cfgIndex : Byte
  irqLine : Nat
  geom : Vector Geometry 6
  name0 : DevName
  name1 : DevName
  base0 : Group
  base1 : Group
  dsel0 : BitVec 2
  dsel1 : BitVec 2
  deriving DecidableEq, Repr

/-- The defaults of 00 R5 with the table of 10 R23.
PRESUMED by the spec itself (its GK marks, assumption 12). The OPEN parameters `dmaBufAddr`, `name0`, `name1` hold
DESIGN CHOICE values (assumption 1); no statement rests on them, every statement holds for every
well-formed configuration it names. Unsafe where one did. -/
def Config.standard : Config where
  basePrimary := 0x03F0
  baseSecondary := 0x0370
  offDor := 2
  offMsr := 4
  offData := 5
  offCcr := 7
  msrRqm := 0x80
  msrDio := 0x40
  dorDselMask := 0x03
  dorNreset := 0x04
  dorDmaen := 0x08
  dorMotor := #v[0x10, 0x20, 0x40, 0x80]
  opcRead := 0xE6
  opcSeek := 0x0F
  opcRecal := 0x07
  opcSensei := 0x08
  st0IcMask := 0xC0
  rateDefault := 0x00
  pollLimit := 128
  pacePort := 0x0080
  waitLimit := none
  dmaCh := 2
  dmaBufAddr := 0x00010000
  cfgIndex := 0x10
  irqLine := 6
  geom := #v[⟨0, 0, 0, 0⟩, ⟨40, 2, 9, 512⟩, ⟨80, 2, 15, 512⟩, ⟨80, 2, 9, 512⟩, ⟨80, 2, 18, 512⟩, ⟨80, 2, 36, 512⟩]
  name0 := 0x30
  name1 := 0x31
  base0 := .primary
  base1 := .secondary
  dsel0 := 0
  dsel1 := 1

/-- FREE VALUE (assumption 4): the `n`-th byte the environment answers once the scripted answers are
used up (00 R9, 10 R26, U10: any byte). It has no body, so no proof can rest on its value. Safe. -/
opaque Config.freeByte : Nat → Byte

end Sys2Proof
end

