-- ==== Sys2Proof/Syntax.lean ====
section
/-! DEFINITION. The instructions: one constructor for each row of spec/opcode_table.json. -/

namespace Sys2Proof

/-- Every row of the opcode table. Host commands carry the whole triple (CTL, A, B) of 30 R60: the
fields of CTL that the row leaves free, and both operand words (also the ignored ones, because 46
R170 latches them). Sequences with frames take their operands from their frame on `SPC`, so they
carry none; single-step sequences carry theirs. -/
inductive Instr where
  -- format H (30 R60, R61)
  | hostOpen (h : BitVec 1) (origin : BitVec 2) (a : BitVec 64) (b : BitVec 32)
  | hostClose (h : BitVec 1) (origin : BitVec 2) (a : BitVec 64) (b : BitVec 32)
  | hostRead (h : BitVec 1) (origin : BitVec 2) (a : BitVec 64) (b : BitVec 32)
  | hostWrite (h : BitVec 1) (origin : BitVec 2) (a : BitVec 64) (b : BitVec 32)
  | hostSeek (h : BitVec 1) (origin : BitVec 2) (a : BitVec 64) (b : BitVec 32)
  | illegalOp5 (mid : BitVec 3) (a : BitVec 64) (b : BitVec 32)
  | illegalOp6 (mid : BitVec 3) (a : BitVec 64) (b : BitVec 32)
  | illegalOp7 (mid : BitVec 3) (a : BitVec 64) (b : BitVec 32)
  | illegalRsv1 (low : BitVec 6) (a : BitVec 64) (b : BitVec 32)
  | illegalRsv2 (low : BitVec 6) (a : BitVec 64) (b : BitVec 32)
  | illegalRsv3 (low : BitVec 6) (a : BitVec 64) (b : BitVec 32)
  -- wire frames (30 R67 to R71)
  | fdcSenseInterruptStatus
  | fdcRecalibrate (dsel : BitVec 2)
  | fdcSeek (dsel : BitVec 2) (target : Byte)
  | fdcRead (dsel : BitVec 2) (cyl head sector eot : Byte)
  | fdcSisResult (code cyl : Byte)
  | fdcReadResult (status0 status1 status2 cyl head sector size : Byte)
  -- register words (30 R72 to R76)
  | dorDisable
  | dorEnable
  | dorRun0
  | dorRun1
  | dorStop0
  | dorStop1
  | rateDefault
  | msrSendReady (others : BitVec 6)
  | msrRecvReady (others : BitVec 6)
  | st0Success (others : BitVec 6)
  | driveTypeByte (code0 code1 : BitVec 4)
  -- sequences (30 R77)
  | seqIdle
  | seqInit
  | seqOpen
  | seqClose
  | seqRead
  | seqWrite
  | seqSeek
  | seqReadblock
  | seqCopyblk
  | seqXlate (b : BitVec 32) (heads sectors : Byte)
  | seqInrange (b : BitVec 32) (cyls : BitVec 16) (heads sectors : Byte)
  | seqMotoron
  | seqMotoroff
  | seqRecalibrate
  | seqSeekcyl
  | seqResetseq
  | seqWait
  | seqIrq
  | seqSendframe
  | seqGetframe
  | seqSendbyte
  | seqGetbyte
  | seqPortWr (a : Port) (v : Byte)
  | seqPortRd (a : Port)
  | seqPaceRd
  | seqDmaProg (ch : BitVec 3) (addr : Addr) (len : BitVec 32)
  | seqCfgRd (i : Byte)
  | seqMemRd (a : Addr)
  | seqMemWr (a : Addr) (v : Byte)
  | seqIllegal
  deriving DecidableEq, Repr

end Sys2Proof
end

