-- ==== Sys2Proof/WellFormed.lean ====
section
/-! DEFINITION. Which instructions are well formed: the operand bounds the types do not already give. -/

namespace Sys2Proof

/-- The operand bounds of 30 R70, 43 R120, 43 R121 (with the geometry bounds of 00 R6(d)). Every
other field is as wide as its encoding and every value of it is legal. -/
def Instr.wellFormed : Instr → Bool
  | .fdcRead _ _ head sector eot => head.toNat < 64 && 1 ≤ sector.toNat && sector.toNat ≤ eot.toNat
  | .seqXlate _ heads sectors => 1 ≤ heads.toNat && heads.toNat ≤ 64 && 1 ≤ sectors.toNat
  | .seqInrange _ cyls heads sectors =>
      1 ≤ cyls.toNat && cyls.toNat ≤ 256 && 1 ≤ heads.toNat && heads.toNat ≤ 64 && 1 ≤ sectors.toNat
  | .hostOpen .. | .hostClose .. | .hostRead .. | .hostWrite .. | .hostSeek .. => true
  | .illegalOp5 .. | .illegalOp6 .. | .illegalOp7 .. => true
  | .illegalRsv1 .. | .illegalRsv2 .. | .illegalRsv3 .. => true
  | .fdcSenseInterruptStatus | .fdcRecalibrate .. | .fdcSeek .. => true
  | .fdcSisResult .. | .fdcReadResult .. => true
  | .dorDisable | .dorEnable | .dorRun0 | .dorRun1 | .dorStop0 | .dorStop1 | .rateDefault => true
  | .msrSendReady .. | .msrRecvReady .. | .st0Success .. | .driveTypeByte .. => true
  | .seqIdle | .seqInit | .seqOpen | .seqClose | .seqRead | .seqWrite | .seqSeek => true
  | .seqReadblock | .seqCopyblk | .seqMotoron | .seqMotoroff | .seqRecalibrate | .seqSeekcyl => true
  | .seqResetseq | .seqWait | .seqIrq | .seqSendframe | .seqGetframe | .seqSendbyte => true
  | .seqGetbyte | .seqPortWr .. | .seqPortRd .. | .seqPaceRd | .seqDmaProg .. | .seqCfgRd .. => true
  | .seqMemRd .. | .seqMemWr .. | .seqIllegal => true

end Sys2Proof
end

