-- ==== Sys2Proof/Decode.lean ====
section
/-! DEFINITION. The decoder of every encoded object of 30_encoding.md, total on any bytes, and after it the encoder. -/

namespace Sys2Proof

/-- Which instruction an output-control byte came from: the same byte 0x0C is DOR_ENABLE when
RESETSEQ writes it and DOR_STOP(0) when MOTOROFF does (30 R73, the table's note on DOR_STOP_0). -/
inductive DorWriter where
  | resetseq
  | motoron
  | motoroff
  deriving DecidableEq, Repr

/-- The kinds of encoded object (30 §1 to §4). The formats overlap bit for bit, so a word is decoded
in the space it stands in (assumption 10). -/
inductive Space where
  | host
  | command
  | result
  | outputControl (w : DorWriter)
  | configControl
  | mainStatus
  | resultCode
  | driveTypes
  | sequence
  deriving DecidableEq, Repr

/-- Why bytes are refused, by name. -/
inductive DecodeError where
  /-- the number of bytes is not that of the object -/
  | wrongLength
  /-- no command frame has this opcode and length (30 R67 to R70) -/
  | unknownOpcode
  /-- bits the encoding fixes at 0 are set -/
  | reservedBits
  /-- a constant byte of the READ frame differs (30 R70 "bit-exact") -/
  | badConstant
  /-- the head in byte 1 and the head in byte 3 of a READ frame differ (30 R70) -/
  | headMismatch
  /-- no row of the table names this register value -/
  | noSuchWord
  /-- sequence ids 30 and 31 (30 R77) -/
  | unusedId
  deriving DecidableEq, Repr

/-- A 16-bit value from its bytes, least significant first. -/
def word16 (x0 x1 : Byte) : BitVec 16 := x1 ++ x0

/-- A 32-bit value from its bytes, least significant first. -/
def word32 (x0 x1 x2 x3 : Byte) : BitVec 32 := x3 ++ x2 ++ x1 ++ x0

/-- A 64-bit value from its bytes, least significant first. -/
def word64 (x0 x1 x2 x3 x4 x5 x6 x7 : Byte) : BitVec 64 :=
  x7 ++ x6 ++ x5 ++ x4 ++ x3 ++ x2 ++ x1 ++ x0

/-- The bytes of a 16-bit value, least significant first. -/
def bytes16 (v : BitVec 16) : List Byte := [v.extractLsb' 0 8, v.extractLsb' 8 8]

/-- The bytes of a 32-bit value, least significant first. -/
def bytes32 (v : BitVec 32) : List Byte :=
  [v.extractLsb' 0 8, v.extractLsb' 8 8, v.extractLsb' 16 8, v.extractLsb' 24 8]

/-- The bytes of a 64-bit value, least significant first. -/
def bytes64 (v : BitVec 64) : List Byte :=
  [v.extractLsb' 0 8, v.extractLsb' 8 8, v.extractLsb' 16 8, v.extractLsb' 24 8,
   v.extractLsb' 32 8, v.extractLsb' 40 8, v.extractLsb' 48 8, v.extractLsb' 56 8]

/-- The host command of a control byte and its operand words: every one of the 256 control bytes is
an operation or illegal (30 R60, R61, R64; 46 R171 checks the reserved bits before `op`). -/
def decodeHost (ctl : Byte) (a : BitVec 64) (b : BitVec 32) : Instr :=
  let rsv : BitVec 2 := ctl.extractLsb' 6 2
  let op : BitVec 3 := ctl.extractLsb' 0 3
  let h : BitVec 1 := ctl.extractLsb' 3 1
  let origin : BitVec 2 := ctl.extractLsb' 4 2
  if rsv = 1 then .illegalRsv1 (ctl.extractLsb' 0 6) a b
  else if rsv = 2 then .illegalRsv2 (ctl.extractLsb' 0 6) a b
  else if rsv = 3 then .illegalRsv3 (ctl.extractLsb' 0 6) a b
  else if op = 0 then .hostOpen h origin a b
  else if op = 1 then .hostClose h origin a b
  else if op = 2 then .hostRead h origin a b
  else if op = 3 then .hostWrite h origin a b
  else if op = 4 then .hostSeek h origin a b
  else if op = 5 then .illegalOp5 (ctl.extractLsb' 3 3) a b
  else if op = 6 then .illegalOp6 (ctl.extractLsb' 3 3) a b
  else .illegalOp7 (ctl.extractLsb' 3 3) a b

/-- A command frame on the data register (30 R67 to R70); its opcodes are the defaults of the
table's match column. -/
def decodeCommand : List Byte → Except DecodeError Instr
  | [x0] => if x0 = 0x08 then .ok .fdcSenseInterruptStatus else .error .unknownOpcode
  | [x0, x1] =>
    if x0 ≠ 0x07 then .error .unknownOpcode
    else if x1.extractLsb' 2 6 ≠ 0 then .error .reservedBits
    else .ok (.fdcRecalibrate (x1.extractLsb' 0 2))
  | [x0, x1, x2] =>
    if x0 ≠ 0x0F then .error .unknownOpcode
    else if x1.extractLsb' 2 6 ≠ 0 then .error .reservedBits
    else .ok (.fdcSeek (x1.extractLsb' 0 2) x2)
  | [x0, x1, x2, x3, x4, x5, x6, x7, x8] =>
    if x0 ≠ 0xE6 then .error .unknownOpcode
    else if x5 ≠ sizeCode ∨ x7 ≠ gapLength ∨ x8 ≠ dataLength then .error .badConstant
    else if x1.extractLsb' 2 6 ≠ x3.extractLsb' 0 6 then .error .headMismatch
    else .ok (.fdcRead (x1.extractLsb' 0 2) x2 x3 x4 x6)
  | _ => .error .wrongLength

/-- A result frame: every value is legal, its length is known from the command sent (30 R66, R67, R71). -/
def decodeResult : List Byte → Except DecodeError Instr
  | [x0, x1] => .ok (.fdcSisResult x0 x1)
  | [x0, x1, x2, x3, x4, x5, x6] => .ok (.fdcReadResult x0 x1 x2 x3 x4 x5 x6)
  | _ => .error .wrongLength

/-- A byte of the output-control register by its writer (30 R73, default values). -/
def decodeDor (w : DorWriter) (x : Byte) : Except DecodeError Instr :=
  match w with
  | .resetseq =>
    if x = 0x00 then .ok .dorDisable else if x = 0x0C then .ok .dorEnable else .error .noSuchWord
  | .motoron =>
    if x = 0x1C then .ok .dorRun0 else if x = 0x2D then .ok .dorRun1 else .error .noSuchWord
  | .motoroff =>
    if x = 0x0C then .ok .dorStop0 else if x = 0x0D then .ok .dorStop1 else .error .noSuchWord

/-- The two named conditions on the main status register (30 R72, default masks). -/
def decodeStatus (x : Byte) : Except DecodeError Instr :=
  if x.extractLsb' 6 2 = (2 : BitVec 2) then .ok (.msrSendReady (x.extractLsb' 0 6))
  else if x.extractLsb' 6 2 = (3 : BitVec 2) then .ok (.msrRecvReady (x.extractLsb' 0 6))
  else .error .noSuchWord

/-- The operands of the single-step sequences with more than the id byte (assumption 10 on their layout). -/
def decodeSeqOperands (id : BitVec 5) : List Byte → Except DecodeError Instr
  | [p0, p1, p2, p3, p4, p5] =>
    if id = 9 then .ok (.seqXlate (word32 p0 p1 p2 p3) p4 p5) else .error .wrongLength
  | [p0, p1, p2, p3, p4, p5, p6, p7] =>
    if id = 10 then .ok (.seqInrange (word32 p0 p1 p2 p3) (word16 p4 p5) p6 p7) else .error .wrongLength
  | [p0, p1, p2] =>
    if id = 22 then .ok (.seqPortWr (word16 p0 p1) p2) else .error .wrongLength
  | [p0, p1] =>
    if id = 23 then .ok (.seqPortRd (word16 p0 p1)) else .error .wrongLength
  | [p0, p1, p2, p3, p4, p5, p6, p7, p8] =>
    if id ≠ 25 then .error .wrongLength
    else if p0.extractLsb' 3 5 ≠ 0 then .error .reservedBits
    else .ok (.seqDmaProg (p0.extractLsb' 0 3) (word32 p1 p2 p3 p4) (word32 p5 p6 p7 p8))
  | [p0] => if id = 26 then .ok (.seqCfgRd p0) else .error .wrongLength
  | [p0, p1, p2, p3] =>
    if id = 27 then .ok (.seqMemRd (word32 p0 p1 p2 p3)) else .error .wrongLength
  | [p0, p1, p2, p3, p4] =>
    if id = 28 then .ok (.seqMemWr (word32 p0 p1 p2 p3) p4) else .error .wrongLength
  | _ => .error .wrongLength

/-- The sequences whose encoding is the id alone (30 R77). -/
def decodeSeqPlain (id : BitVec 5) : Except DecodeError Instr :=
  match id.toNat with
  | 0 => .ok .seqIdle
  | 1 => .ok .seqInit
  | 2 => .ok .seqOpen
  | 3 => .ok .seqClose
  | 4 => .ok .seqRead
  | 5 => .ok .seqWrite
  | 6 => .ok .seqSeek
  | 7 => .ok .seqReadblock
  | 8 => .ok .seqCopyblk
  | 11 => .ok .seqMotoron
  | 12 => .ok .seqMotoroff
  | 13 => .ok .seqRecalibrate
  | 14 => .ok .seqSeekcyl
  | 15 => .ok .seqResetseq
  | 16 => .ok .seqWait
  | 17 => .ok .seqIrq
  | 18 => .ok .seqSendframe
  | 19 => .ok .seqGetframe
  | 20 => .ok .seqSendbyte
  | 21 => .ok .seqGetbyte
  | 24 => .ok .seqPaceRd
  | 29 => .ok .seqIllegal
  | 30 => .error .unusedId
  | 31 => .error .unusedId
  | _ => .error .wrongLength

/-- The instruction that bytes stand for in a space, or the reason they stand for none. -/
def decode (sp : Space) (bs : List Byte) : Except DecodeError Instr :=
  match sp with
  | .host =>
    match bs with
    | [c, a0, a1, a2, a3, a4, a5, a6, a7, b0, b1, b2, b3] =>
      .ok (decodeHost c (word64 a0 a1 a2 a3 a4 a5 a6 a7) (word32 b0 b1 b2 b3))
    | _ => .error .wrongLength
  | .command => decodeCommand bs
  | .result => decodeResult bs
  | .outputControl w =>
    match bs with
    | [x] => decodeDor w x
    | _ => .error .wrongLength
  | .configControl =>
    match bs with
    | [x] => if x = 0x00 then .ok .rateDefault else .error .noSuchWord
    | _ => .error .wrongLength
  | .mainStatus =>
    match bs with
    | [x] => decodeStatus x
    | _ => .error .wrongLength
  | .resultCode =>
    match bs with
    | [x] => if x.extractLsb' 6 2 = (0 : BitVec 2) then .ok (.st0Success (x.extractLsb' 0 6)) else .error .noSuchWord
    | _ => .error .wrongLength
  | .driveTypes =>
    match bs with
    | [x] => .ok (.driveTypeByte (x.extractLsb' 4 4) (x.extractLsb' 0 4))
    | _ => .error .wrongLength
  | .sequence =>
    match bs with
    | [] => .error .wrongLength
    | x :: ops =>
      if x.extractLsb' 5 3 ≠ 0 then .error .reservedBits
      else match ops with
        | [] => decodeSeqPlain (x.extractLsb' 0 5)
        | _ => decodeSeqOperands (x.extractLsb' 0 5) ops

/-- The control byte of 30 R60: reserved bits 0, `origin` in 5:4, `h` in 3, `op` in 2:0. -/
def hostControl (op : BitVec 3) (h : BitVec 1) (origin : BitVec 2) : Byte :=
  (0 : BitVec 2) ++ origin ++ h ++ op

/-- A control byte whose `op` is none (30 R64): bits 5:3 free. -/
def illegalOpControl (op : BitVec 3) (mid : BitVec 3) : Byte := (0 : BitVec 2) ++ mid ++ op

/-- A control byte with reserved bits set (30 R64): bits 5:0 free. -/
def illegalRsvControl (rsv : BitVec 2) (low : BitVec 6) : Byte := rsv ++ low

/-- The thirteen bytes of a host command: CTL, then A and B least significant byte first. -/
def hostBytes (ctl : Byte) (a : BitVec 64) (b : BitVec 32) : List Byte :=
  ctl :: (bytes64 a ++ bytes32 b)

/-- The five-bit id of 30 R77 in one byte, operand bytes after it. -/
def seqBytes (id : BitVec 5) (ops : List Byte) : List Byte := id.zeroExtend 8 :: ops

/-- The space and the bytes of an instruction, from 30 R60, R67 to R77. -/
def encode : Instr → Space × List Byte
  | .hostOpen h o a b => (.host, hostBytes (hostControl 0 h o) a b)
  | .hostClose h o a b => (.host, hostBytes (hostControl 1 h o) a b)
  | .hostRead h o a b => (.host, hostBytes (hostControl 2 h o) a b)
  | .hostWrite h o a b => (.host, hostBytes (hostControl 3 h o) a b)
  | .hostSeek h o a b => (.host, hostBytes (hostControl 4 h o) a b)
  | .illegalOp5 m a b => (.host, hostBytes (illegalOpControl 5 m) a b)
  | .illegalOp6 m a b => (.host, hostBytes (illegalOpControl 6 m) a b)
  | .illegalOp7 m a b => (.host, hostBytes (illegalOpControl 7 m) a b)
  | .illegalRsv1 l a b => (.host, hostBytes (illegalRsvControl 1 l) a b)
  | .illegalRsv2 l a b => (.host, hostBytes (illegalRsvControl 2 l) a b)
  | .illegalRsv3 l a b => (.host, hostBytes (illegalRsvControl 3 l) a b)
  | .fdcSenseInterruptStatus => (.command, [0x08])
  | .fdcRecalibrate d => (.command, [0x07, d.zeroExtend 8])
  | .fdcSeek d t => (.command, [0x0F, d.zeroExtend 8, t])
  | .fdcRead d c h s e =>
    (.command, [0xE6, h.extractLsb' 0 6 ++ d, c, h, s, sizeCode, e, gapLength, dataLength])
  | .fdcSisResult x y => (.result, [x, y])
  | .fdcReadResult x0 x1 x2 x3 x4 x5 x6 => (.result, [x0, x1, x2, x3, x4, x5, x6])
  | .dorDisable => (.outputControl .resetseq, [0x00])
  | .dorEnable => (.outputControl .resetseq, [0x0C])
  | .dorRun0 => (.outputControl .motoron, [0x1C])
  | .dorRun1 => (.outputControl .motoron, [0x2D])
  | .dorStop0 => (.outputControl .motoroff, [0x0C])
  | .dorStop1 => (.outputControl .motoroff, [0x0D])
  | .rateDefault => (.configControl, [0x00])
  | .msrSendReady x => (.mainStatus, [(2 : BitVec 2) ++ x])
  | .msrRecvReady x => (.mainStatus, [(3 : BitVec 2) ++ x])
  | .st0Success x => (.resultCode, [(0 : BitVec 2) ++ x])
  | .driveTypeByte x y => (.driveTypes, [x ++ y])
  | .seqIdle => (.sequence, seqBytes 0 [])
  | .seqInit => (.sequence, seqBytes 1 [])
  | .seqOpen => (.sequence, seqBytes 2 [])
  | .seqClose => (.sequence, seqBytes 3 [])
  | .seqRead => (.sequence, seqBytes 4 [])
  | .seqWrite => (.sequence, seqBytes 5 [])
  | .seqSeek => (.sequence, seqBytes 6 [])
  | .seqReadblock => (.sequence, seqBytes 7 [])
  | .seqCopyblk => (.sequence, seqBytes 8 [])
  | .seqXlate b h s => (.sequence, seqBytes 9 (bytes32 b ++ [h, s]))
  | .seqInrange b c h s => (.sequence, seqBytes 10 (bytes32 b ++ bytes16 c ++ [h, s]))
  | .seqMotoron => (.sequence, seqBytes 11 [])
  | .seqMotoroff => (.sequence, seqBytes 12 [])
  | .seqRecalibrate => (.sequence, seqBytes 13 [])
  | .seqSeekcyl => (.sequence, seqBytes 14 [])
  | .seqResetseq => (.sequence, seqBytes 15 [])
  | .seqWait => (.sequence, seqBytes 16 [])
  | .seqIrq => (.sequence, seqBytes 17 [])
  | .seqSendframe => (.sequence, seqBytes 18 [])
  | .seqGetframe => (.sequence, seqBytes 19 [])
  | .seqSendbyte => (.sequence, seqBytes 20 [])
  | .seqGetbyte => (.sequence, seqBytes 21 [])
  | .seqPortWr a v => (.sequence, seqBytes 22 (bytes16 a ++ [v]))
  | .seqPortRd a => (.sequence, seqBytes 23 (bytes16 a))
  | .seqPaceRd => (.sequence, seqBytes 24 [])
  | .seqDmaProg c a l => (.sequence, seqBytes 25 (c.zeroExtend 8 :: (bytes32 a ++ bytes32 l)))
  | .seqCfgRd i => (.sequence, seqBytes 26 [i])
  | .seqMemRd a => (.sequence, seqBytes 27 (bytes32 a))
  | .seqMemWr a v => (.sequence, seqBytes 28 (bytes32 a ++ [v]))
  | .seqIllegal => (.sequence, seqBytes 29 [])

/-- The first `n` bytes of a number, least significant first. -/
def numberBytes : Nat → Nat → List Byte
  | 0, _ => []
  | n + 1, w => BitVec.ofNat 8 w :: numberBytes n (w / 256)

/-- How many operand bytes follow the id byte of a sequence. -/
def seqOperandBytes (id : Nat) : Nat :=
  match id with
  | 9 => 6
  | 10 => 8
  | 22 => 3
  | 23 => 2
  | 25 => 9
  | 26 => 1
  | 27 => 4
  | 28 => 5
  | _ => 0

/-- The space and bytes of a bare table word of `nbits` bits, every bit above them 0 (assumption 10):
8 bits are a host command with operand words of zeros, 5 bits a sequence id with operand words of
zeros, 16 bits a RECALIBRATE frame where they are one and else a two-byte result frame, 24 and 72
bits a command frame, 56 bits a result frame. -/
def tableObject (nbits w : Nat) : Option (Space × List Byte) :=
  match nbits with
  | 5 => some (.sequence, numberBytes (1 + seqOperandBytes (w % 32)) (w % 32))
  | 8 => some (.host, numberBytes 13 (w % 2 ^ 8))
  | 16 =>
    match decodeCommand (numberBytes 2 w) with
    | .ok _ => some (.command, numberBytes 2 w)
    | .error _ => some (.result, numberBytes 2 w)
  | 24 => some (.command, numberBytes 3 w)
  | 56 => some (.result, numberBytes 7 w)
  | 72 => some (.command, numberBytes 9 w)
  | _ => none

/-- The instruction the decoder reads from a table word, none where it refuses. -/
def decodeTableWord (nbits w : Nat) : Option Instr :=
  match tableObject nbits w with
  | none => none
  | some (sp, bs) =>
    match decode sp bs with
    | .ok i => some i
    | .error _ => none

end Sys2Proof
end

