-- ==== Sys2Proof/Machine/State.lean ====
section
/-! DEFINITION. The state of the block (10_state.md), the state of its surroundings that a run reads, the stop reasons, reset. -/

namespace Sys2Proof.Machine

/-- A cause code (60 R200); code 0, `NONE`, is never raised. -/
inductive Cause where
  | byteTimeout
  | seekVerify
  | commandFailure
  | lostInterrupt
  | resourceBusy
  | unsupported
  | noDevice
  | badHandle
  | shortBuffer
  | outOfRange
  | illegalCommand
  deriving DecidableEq, Repr

/-- What a sequence returns: `Ok`, `Ok(v)`, `Fail(c)` (00 R8). -/
inductive SeqOutcome where
  | ok
  | okValue (v : BitVec 32)
  | fail (c : Cause)
  deriving DecidableEq, Repr

/-- The lengths of command frames (30 R66): 1, 2, 3, 9 bytes. -/
inductive SendLen where
  | one
  | two
  | three
  | nine
  deriving DecidableEq, Repr

/-- The lengths of result frames (30 R66): 2, 7 bytes. -/
inductive GetLen where
  | two
  | seven
  deriving DecidableEq, Repr

/-- Places of INIT (47 R190): before the read; with the type byte in hand; drive 0 done; last step. -/
inductive InitPlace where
  | start
  | types (v : Byte)
  | second (v : Byte)
  | install
  deriving DecidableEq, Repr

/-- Places of OPEN (46 R172): before the checks; RESETSEQ of drive `d` called. -/
inductive OpenPlace where
  | start
  | resetting (d : DriveId)
  deriving DecidableEq, Repr

/-- Places of CLOSE (46 R173): before the check; MOTOROFF called. -/
inductive ClosePlace where
  | start
  | stopping
  deriving DecidableEq, Repr

/-- Places of READ (46 R174): before the checks; READBLOCK called. -/
inductive ReadPlace where
  | start
  | reading
  deriving DecidableEq, Repr

/-- Places of READBLOCK (45 R150); each but `start` and `programmed` names the call made there. -/
inductive ReadblockPlace where
  | start
  | spinning
  | seeking
  | programmed
  | sending
  | waiting
  | draining
  | quieting
  | copying
  | rehoming
  | seekAborting (c : Cause)
  | resetting (c : Cause)
  deriving DecidableEq, Repr

/-- Places of COPYBLK (45 R157): before the first read; a byte in `CD`; a byte written. -/
inductive CopyPlace where
  | start
  | loaded
  | stored
  deriving DecidableEq, Repr

/-- Places of a sequence of one event: before it, after it. -/
inductive LeafPlace where
  | start
  | done
  deriving DecidableEq, Repr

/-- Places of RECALIBRATE (44 R132); `stopping r` holds the outcome to return. -/
inductive RecalPlace where
  | start
  | spinning
  | sending
  | waiting
  | stopping (r : SeqOutcome)
  deriving DecidableEq, Repr

/-- Places of SEEKCYL (44 R133); `start` is before the no-op test. -/
inductive SeekcylPlace where
  | start
  | sending
  | waiting
  deriving DecidableEq, Repr

/-- Places of RESETSEQ (44 R134) by its steps 1 to 5; `r1` is the outcome of step 3. -/
inductive ResetPlace where
  | start
  | enable
  | selfTest
  | testing
  | rated (r1 : SeqOutcome)
  | homing (r1 : SeqOutcome)
  deriving DecidableEq, Repr

/-- Places of WAIT (42 R112): before the first poll; after a poll of 0; after the poll of 1; frames called. -/
inductive WaitPlace where
  | start
  | missed
  | signalled
  | sending
  | getting
  deriving DecidableEq, Repr

/-- Places of SENDFRAME and GETFRAME (41 R102, R103): before the loop; a byte primitive called. -/
inductive FramePlace where
  | start
  | moving
  deriving DecidableEq, Repr

/-- Places of SENDBYTE and GETBYTE (41 R100, R101): before the first status read; a status byte in
`MSRV`; a discard read done; the data byte moved. -/
inductive BytePlace where
  | start
  | tested
  | paced
  | moved
  deriving DecidableEq, Repr

/-- A frame of `SPC` (10 R14): the sequence, the place in it, and the operands it runs with. Only
sequences of more than one step have frames. -/
inductive Frame where
  | idle
  | init (p : InitPlace)
  | opOpen (p : OpenPlace)
  | opClose (p : ClosePlace)
  | opRead (p : ReadPlace)
  | opWrite
  | opSeek
  | opIllegal
  | readblock (p : ReadblockPlace) (d : DriveId) (b : BitVec 32) (buf : Addr)
  | copyblk (p : CopyPlace) (buf : Addr)
  | motoron (p : LeafPlace) (d : DriveId)
  | motoroff (p : LeafPlace) (d : DriveId)
  | recalibrate (p : RecalPlace) (d : DriveId)
  | seekcyl (p : SeekcylPlace) (d : DriveId) (t : Byte)
  | resetseq (p : ResetPlace) (d : DriveId)
  | wait (p : WaitPlace) (d : DriveId)
  | sendframe (p : FramePlace) (d : DriveId) (n : SendLen)
  | getframe (p : FramePlace) (d : DriveId) (n : GetLen)
  | sendbyte (p : BytePlace) (d : DriveId) (v : Byte)
  | getbyte (p : BytePlace) (d : DriveId)
  deriving DecidableEq, Repr

/-- A drive record `DRV[d]` (10 R18). -/
structure Drive where
  present : Bool
  geom : BitVec 3
  curCyl : Byte
  cursor : BitVec 32
  lock : Bool
  st0 : Byte
  rcyl : Byte
  deriving DecidableEq, Repr

/-- The state of the block, exactly the list of 10 R10, and `ret`, the model's own: the outcome that
a return hands to the caller's frame (10 R14, assumption 5). -/
structure Regs where
  cs : Bool
  ie : Bool
  err : BitVec 4
  spc : List Frame
  ctl : Byte
  a : BitVec 64
  b : BitVec 32
  xc : BitVec 32
  xh : BitVec 32
  xs : BitVec 32
  tries : BitVec 2
  pcnt : Nat
  wcnt : Nat
  msrv : Byte
  rb : Byte
  fb : Vector Byte 9
  rf : Vector Byte 7
  fi : BitVec 4
  ci : BitVec 10
  cd : Byte
  dorshPrimary : Byte
  dorshSecondary : Byte
  drv0 : Drive
  drv1 : Drive
  ret : SeqOutcome
  deriving DecidableEq, Repr

/-- An interface event of the block (00 R8), with the environment's answer where it has one. -/
inductive Event where
  | ioWrite (a : Port) (v : Byte)
  | ioRead (a : Port) (v : Byte)
  | pollCS (v : Bool)
  | dmaProgram (ch : BitVec 3) (addr : Addr) (len : BitVec 32)
  | cfgRead (i : Byte) (v : Byte)
  | register (d : DriveId) (n : DevName)
  | memRead (a : Addr) (v : Byte)
  | memWrite (a : Addr) (v : Byte)
  | respond (ok : Bool) (value : BitVec 32) (err : BitVec 4)
  deriving DecidableEq, Repr

/-- A host command as it stands on the command port (30 R60). -/
structure HostCmd where
  ctl : Byte
  a : BitVec 64
  b : BitVec 32
  deriving DecidableEq, Repr

/-- A transfer handed to the DMA programmer (40 R93). -/
structure Transfer where
  ch : BitVec 3
  addr : Addr
  len : BitVec 32
  deriving DecidableEq, Repr

/-- One step of some agent (00 R9), as the schedule lists them: the sequencer; the interrupt agent;
the DMA engine writing byte `i` of the DMA buffer; another agent writing a byte of SYS; the host
presenting a command; the reset line. -/
inductive Move where
  | sequencer
  | irqFire
  | dmaWrite (i : BitVec 9) (v : Byte)
  | sysWrite (a : Addr) (v : Byte)
  | present (c : HostCmd)
  | rst
  deriving DecidableEq, Repr

/-- The surroundings of the block (00 R9, 10 R26): the command port, SYS, the DMA engine's transfer;
and the model's own record of them: the scripted answers, the count of free answers drawn, the
schedule, the events emitted (latest first), the issue latch (assumptions 3, 4, 8, 9). -/
structure Env where
  cmd : Option HostCmd
  sys : List Host.Cell
  dma : Option Transfer
  answers : List Byte
  freeCtr : Nat
  sched : List Move
  trace : List Event
  issue : Option (Space × List Byte)
  deriving DecidableEq, Repr

/-- The machine: its configuration (00 R5, fixed), the block, the surroundings. -/
structure State where
  cfg : Config
  reg : Regs
  env : Env
  deriving DecidableEq, Repr

/-- Where the machine stops. Each is a case the spec rules out, so no run from reset meets one; a stop
instead of a guess is safe. -/
inductive Fault where
  /-- `step`: `SPC` holds no frame; 10 R14 always gives it one. Safe. -/
  | noFrame
  /-- a sequence's meaning: the frame on top of `SPC` is not one of this sequence (10 R14: the top
  frame is the sequence in progress); a register word's meaning: no frame that reacts to it. Safe. -/
  | notInProgress
  /-- the return of a sequence that has no caller's frame below it (10 R14). Safe. -/
  | noCaller
  /-- XLATE with a head or sector count of 0: 43 R124 "must not give div by 0 a value". Safe. -/
  | xlateDomain
  deriving DecidableEq, Repr

/-- What the machine refuses. -/
inductive Refusal where
  /-- `exec`: an instruction without a meaning yet. No arm uses it. Safe. -/
  | notModelled (mnemonic : String)
  /-- `step`: the configuration is not well formed, 00 R6 "a model refuses any other". Safe. -/
  | configIllFormed
  /-- `step`: the issue latch holds bytes that stand for no instruction (assumption 9). Safe. -/
  | noSuchInstruction (e : DecodeError)
  deriving DecidableEq, Repr

/-- A drive record after reset (10 R24). -/
def Drive.reset : Drive where
  present := false
  geom := 0
  curCyl := 0
  cursor := 0
  lock := false
  st0 := 0
  rcyl := 0

/-- Every register of the block after reset (10 R24, 70 R230); `ret` is the model's (assumption 5). -/
def Regs.reset : Regs where
  cs := false
  ie := false
  err := 0
  spc := [.init .start]
  ctl := 0
  a := 0
  b := 0
  xc := 0
  xh := 0
  xs := 0
  tries := 0
  pcnt := 0
  wcnt := 0
  msrv := 0
  rb := 0
  fb := #v[0, 0, 0, 0, 0, 0, 0, 0, 0]
  rf := #v[0, 0, 0, 0, 0, 0, 0]
  fi := 0
  ci := 0
  cd := 0
  dorshPrimary := 0
  dorshSecondary := 0
  drv0 := .reset
  drv1 := .reset
  ret := .ok

/-- Surroundings in which nothing has happened yet. -/
def Env.reset : Env where
  cmd := none
  sys := []
  dma := none
  answers := []
  freeCtr := 0
  sched := []
  trace := []
  issue := none

/-- The machine right after reset (70 R230), with the standard configuration (assumption 1). -/
def State.reset : State where
  cfg := .standard
  reg := .reset
  env := .reset

end Sys2Proof.Machine
end

