-- ==== Sys2Proof/Machine/Operands.lean ====
section
/-! DEFINITION. Operand forms: fields of CTL, addresses and bytes that are functions of the configuration and of a drive. -/

namespace Sys2Proof.Machine

/-- The code of a cause (60 R200). -/
def Cause.code : Cause → BitVec 4
  | .byteTimeout => 1
  | .seekVerify => 2
  | .commandFailure => 3
  | .lostInterrupt => 4
  | .resourceBusy => 5
  | .unsupported => 6
  | .noDevice => 7
  | .badHandle => 8
  | .shortBuffer => 9
  | .outOfRange => 10
  | .illegalCommand => 11

/-- Bytes of a command frame (30 R66). -/
def SendLen.bytes : SendLen → Nat
  | .one => 1
  | .two => 2
  | .three => 3
  | .nine => 9

/-- Bytes of a result frame (30 R66). -/
def GetLen.bytes : GetLen → Nat
  | .two => 2
  | .seven => 7

/-- The drive a handle bit names (30 R60, field `h`; 46 R171). -/
def driveOfBit (h : BitVec 1) : DriveId := if h = 1 then .d1 else .d0

/-- The drive index as a response value (46 R172: `Respond(1, d, ERR)`). -/
def driveNumber : DriveId → BitVec 32
  | .d0 => 0
  | .d1 => 1

/-- `CTL[3]` of the latch. -/
def State.handle (s : State) : DriveId := driveOfBit (s.reg.ctl.extractLsb' 3 1)

/-- `A[31:0]` of the latch: the caller's buffer of READ (30 R62). -/
def State.bufOperand (s : State) : Addr := s.reg.a.extractLsb' 0 32

/-- The record `DRV[d]`. -/
def State.drv (s : State) : DriveId → Drive
  | .d0 => s.reg.drv0
  | .d1 => s.reg.drv1

/-- Writes the record `DRV[d]`. -/
def State.setDrv (s : State) (d : DriveId) (r : Drive) : State :=
  match d with
  | .d0 => { s with reg := { s.reg with drv0 := r } }
  | .d1 => { s with reg := { s.reg with drv1 := r } }

/-- `BASE_g` (00 R5). -/
def groupBase (c : Config) : Group → Port
  | .primary => c.basePrimary
  | .secondary => c.baseSecondary

/-- `BASE(d)`, also `grp(d)` (00 R5). -/
def group (c : Config) : DriveId → Group
  | .d0 => c.base0
  | .d1 => c.base1

/-- `base(d)` (00 R5). -/
def portBase (c : Config) (d : DriveId) : Port := groupBase c (group c d)

/-- The output-control register of drive `d`'s group (20 R41). -/
def dorPort (c : Config) (d : DriveId) : Port := portBase c d + c.offDor

/-- The main status register of drive `d`'s group (20 R41). -/
def msrPort (c : Config) (d : DriveId) : Port := portBase c d + c.offMsr

/-- The data register of drive `d`'s group (20 R41). -/
def dataPort (c : Config) (d : DriveId) : Port := portBase c d + c.offData

/-- The config-control register of drive `d`'s group (20 R41). -/
def ccrPort (c : Config) (d : DriveId) : Port := portBase c d + c.offCcr

/-- `NAME(d)` (00 R5). -/
def devName (c : Config) : DriveId → DevName
  | .d0 => c.name0
  | .d1 => c.name1

/-- `DSEL(d)` (00 R5). -/
def dsel (c : Config) : DriveId → BitVec 2
  | .d0 => c.dsel0
  | .d1 => c.dsel1

/-- `zext_8(DSEL(d))` (30 R68, R69). -/
def dselByte (c : Config) (d : DriveId) : Byte := (dsel c d).zeroExtend 8

/-- `DOR_MOTOR(k)` (00 R5). -/
def motorMask (c : Config) (k : BitVec 2) : Byte :=
  match k with
  | 0 => c.dorMotor[0]
  | 1 => c.dorMotor[1]
  | 2 => c.dorMotor[2]
  | 3 => c.dorMotor[3]

/-- `DOR_DISABLE` (30 R73). -/
def dorDisableByte : Byte := 0x00

/-- `DOR_ENABLE` (30 R73). -/
def dorEnableByte (c : Config) : Byte := c.dorDmaen ||| c.dorNreset

/-- `DOR_RUN(d)` (30 R73). -/
def dorRunByte (c : Config) (d : DriveId) : Byte :=
  c.dorDmaen ||| c.dorNreset ||| dselByte c d ||| motorMask c (dsel c d)

/-- `DOR_STOP(d)` (30 R73). -/
def dorStopByte (c : Config) (d : DriveId) : Byte := c.dorDmaen ||| c.dorNreset ||| dselByte c d

/-- `GEOM(i)` (10 R23). The table has six entries; a `geom` field never holds 6 or 7 (10 R19), and
those read as entry 0 here (assumption 11). -/
def geometry (c : Config) (i : BitVec 3) : Geometry :=
  match i with
  | 1 => c.geom[1]
  | 2 => c.geom[2]
  | 3 => c.geom[3]
  | 4 => c.geom[4]
  | 5 => c.geom[5]
  | _ => c.geom[0]

/-- `GEOM(DRV[d].geom)` (10 R23), whose C, H, S are `geomC(d)`, `geomH(d)`, `geomS(d)`. -/
def State.geomOf (s : State) (d : DriveId) : Geometry := geometry s.cfg (s.drv d).geom

/-- The SENSE INTERRUPT STATUS frame (30 R67). -/
def senseFrame (c : Config) : List Byte := [c.opcSensei]

/-- The RECALIBRATE frame with drive-select `k` (30 R68). -/
def recalFrame (c : Config) (k : BitVec 2) : List Byte := [c.opcRecal, k.zeroExtend 8]

/-- The SEEK frame with drive-select `k` to cylinder `t` (30 R69). -/
def seekFrame (c : Config) (k : BitVec 2) (t : Byte) : List Byte := [c.opcSeek, k.zeroExtend 8, t]

/-- The READ frame with drive-select `k` (30 R70). -/
def readFrame (c : Config) (k : BitVec 2) (xc xh xs : BitVec 32) (eot : Byte) : List Byte :=
  [c.opcRead, (xh <<< 2 ||| k.zeroExtend 32).truncate 8, xc.truncate 8, xh.truncate 8, xs.truncate 8,
   sizeCode, eot, gapLength, dataLength]

/-- `FB` with the bytes of a frame written from entry `i` on (10 R16). -/
def loadFrame : List Byte → Nat → Vector Byte 9 → Vector Byte 9
  | [], _, fb => fb
  | x :: xs, i, fb => loadFrame xs (i + 1) (fb.setIfInBounds i x)

/-- The drive a frame runs for, where it has one. -/
def Frame.drive? : Frame → Option DriveId
  | .idle | .init _ | .opClose _ | .opRead _ | .opWrite | .opSeek | .opIllegal | .copyblk _ _ => none
  | .opOpen .start => none
  | .opOpen (.resetting d) => some d
  | .readblock _ d _ _ | .motoron _ d | .motoroff _ d | .recalibrate _ d | .seekcyl _ d _
  | .resetseq _ d | .wait _ d | .sendframe _ d _ | .getframe _ d _ | .sendbyte _ d _
  | .getbyte _ d => some d

/-- The drive the block works for: that of the topmost frame that has one, else that of the handle
field of the latch. Register words and wire frames issued alone act on it (assumption 9). -/
def State.currentDrive (s : State) : DriveId :=
  match s.reg.spc.findSome? Frame.drive? with
  | some d => d
  | none => s.handle

/-- A single set bit (00 R6(b)). -/
def singleBit (v : Byte) : Bool := v ≠ 0 && (v &&& (v - 1)) == 0

/-- The bounds of 00 R6(d) on an entry 1 to 5 of the geometry table. -/
def geometryOk (g : Geometry) : Bool :=
  1 ≤ g.cyls && g.cyls ≤ 256 && 1 ≤ g.heads && g.heads ≤ 64 && 1 ≤ g.sectors && g.sectors ≤ 255
    && g.bytes == blockSize

/-- The ports of drive `d` are pairwise different and different from `PACE_PORT` (00 R6(f)). -/
def portsOk (c : Config) (d : DriveId) : Bool :=
  [dorPort c d, msrPort c d, dataPort c d, ccrPort c d, c.pacePort].Nodup

/-- A well-formed configuration (00 R6). Clause (g) holds by type. -/
def configOk (c : Config) : Bool :=
  c.name0 ≠ c.name1
    && (singleBit c.msrRqm && singleBit c.msrDio && c.msrRqm ≠ c.msrDio)
    && 1 ≤ c.pollLimit
    && (c.geom[0] == ⟨0, 0, 0, 0⟩ && geometryOk c.geom[1] && geometryOk c.geom[2]
      && geometryOk c.geom[3] && geometryOk c.geom[4] && geometryOk c.geom[5])
    && (c.dmaBufAddr.toNat % blockSize == 0 && c.dmaBufAddr.toNat + blockSize ≤ 2 ^ 24)
    && portsOk c .d0 && portsOk c .d1

end Sys2Proof.Machine
end

