-- ==== Sys2Proof/Machine/Flags.lean ====
section
/-! DEFINITION. The conditions the block computes: status tests, completion code, checks of a handle and a range, derived functions. -/

namespace Sys2Proof.Machine

/-- The send condition on a main status byte (30 R72). -/
def sendReady (c : Config) (v : Byte) : Bool := (v &&& (c.msrRqm ||| c.msrDio)) == c.msrRqm

/-- The receive condition on a main status byte (30 R72). -/
def recvReady (c : Config) (v : Byte) : Bool :=
  (v &&& (c.msrRqm ||| c.msrDio)) == (c.msrRqm ||| c.msrDio)

/-- Completion code 0 (30 R75). -/
def completionOk (c : Config) (st0 : Byte) : Bool := (st0 &&& c.st0IcMask) == 0

/-- INRANGE (43 R121); the product is exact. -/
def inrange (b c h s : Nat) : Bool := decide (b < c * h * s)

/-- The handle check of 46 R171. -/
def State.valid (s : State) (h : DriveId) : Bool := (s.drv h).present && (s.drv h).lock

/-- A drive-type code that constructs a drive (47 R190, 30 R76). -/
def detected (t : BitVec 4) : Bool := 1 ≤ t.toNat && t.toNat ≤ 5

/-- The block is idle: `SPC` is the single frame (IDLE, 0) (10 R14). -/
def State.idle (s : State) : Bool := s.reg.spc == [.idle]

/-- `BUSY` (10 R14). -/
def State.busy (s : State) : Bool := !s.idle

/-- `DORSH[g]` (10 R17). -/
def State.dorsh (s : State) : Group → Byte
  | .primary => s.reg.dorshPrimary
  | .secondary => s.reg.dorshSecondary

/-- `MotorLine(g, k)` (10 R25). -/
def State.motorLine (s : State) (g : Group) (k : BitVec 2) : Bool :=
  (s.dorsh g &&& motorMask s.cfg k) != 0

/-- `MotorOn(d)` (10 R25). -/
def State.motorOn (s : State) (d : DriveId) : Bool := s.motorLine (group s.cfg d) (dsel s.cfg d)

/-- The document's drive states (44 R135). -/
inductive DriveState where
  | off
  | motorOn
  | seeking
  | resetting
  | recalibrating
  deriving DecidableEq, Repr

/-- A frame (RESETSEQ for drive `d`). -/
def Frame.resets (d : DriveId) : Frame → Bool
  | .resetseq _ e => e == d
  | _ => false

/-- A frame (RECALIBRATE for drive `d`). -/
def Frame.recalibrates (d : DriveId) : Frame → Bool
  | .recalibrate _ e => e == d
  | _ => false

/-- A frame (SEEKCYL for drive `d`) past its no-op test. -/
def Frame.seeks (d : DriveId) : Frame → Bool
  | .seekcyl .start _ _ => false
  | .seekcyl _ e _ => e == d
  | _ => false

/-- `DSTATE(d)` (10 R25). -/
def State.driveState (s : State) (d : DriveId) : DriveState :=
  if s.reg.spc.any (Frame.resets d) then .resetting
  else if s.reg.spc.any (Frame.recalibrates d) then .recalibrating
  else if s.reg.spc.any (Frame.seeks d) then .seeking
  else if s.motorOn d then .motorOn
  else .off

end Sys2Proof.Machine
end

