-- ==== Sys2Proof/Machine/Ops.lean ====
section
/-! DEFINITION. The named operations: memory, interface events (40), calls and returns of sequences, raising a failure and ending a command. -/

namespace Sys2Proof.Machine

/-- What one instruction answers. -/
abbrev Result := Host.Outcome State Fault Refusal

-- Memory: the space SYS (20 R40)

/-- What an unlisted byte of SYS reads as: DESIGN CHOICE, the spec gives SYS no contents (20 R45, assumption 7). -/
def unlisted : Byte := 0

/-- The byte at an address. -/
def memGet : List Host.Cell → Nat → Byte
  | [], _ => unlisted
  | (k, w) :: rest, a => if k = a then w else memGet rest a

/-- Stores a byte and keeps the canonical form: the entry goes where it reads as an unlisted byte. -/
def memSet : List Host.Cell → Nat → Byte → List Host.Cell
  | [], a, v => if v = unlisted then [] else [(a, v)]
  | (k, w) :: rest, a, v =>
    if a < k then (if v = unlisted then (k, w) :: rest else (a, v) :: (k, w) :: rest)
    else if a = k then (if v = unlisted then rest else (a, v) :: rest)
    else (k, w) :: memSet rest a v

/-- The canonical form: addresses of 32 bits, strictly rising, no entry that reads as an unlisted byte. -/
def memOk : List Host.Cell → Bool
  | [] => true
  | (k, w) :: rest => decide (k < 2 ^ 32) && w != unlisted && rest.all (fun c => decide (k < c.1)) && memOk rest

/-- The byte of SYS at an address. -/
def State.sysByte (s : State) (a : Addr) : Byte := memGet s.env.sys a.toNat

/-- Stores a byte of SYS. -/
def State.setSys (s : State) (a : Addr) (v : Byte) : State :=
  { s with env := { s.env with sys := memSet s.env.sys a.toNat v } }

-- Interface events (00 R8)

/-- Records an interface event. -/
def emit (e : Event) (s : State) : State :=
  { s with env := { s.env with trace := e :: s.env.trace } }

/-- The environment's next answer: the head of the script, a free byte once the script is used up
(00 R9, 10 R26; assumption 4). -/
def answer (s : State) : Byte × State :=
  match s.env.answers with
  | v :: rest => (v, { s with env := { s.env with answers := rest } })
  | [] => (Config.freeByte s.env.freeCtr, { s with env := { s.env with freeCtr := s.env.freeCtr + 1 } })

/-- The shadow of 40 R90: a write to a group's output-control register is kept in `DORSH[g]`. -/
def shadow (a : Port) (v : Byte) (s : State) : State :=
  { s with reg := { s.reg with
      dorshPrimary := if a = s.cfg.basePrimary + s.cfg.offDor then v else s.reg.dorshPrimary
      dorshSecondary := if a = s.cfg.baseSecondary + s.cfg.offDor then v else s.reg.dorshSecondary } }

/-- `PortWrite(a, v)` (40 R90). -/
def portWrite (a : Port) (v : Byte) (s : State) : State := shadow a v (emit (.ioWrite a v) s)

/-- `PortRead(a)` (40 R91). -/
def portRead (a : Port) (s : State) : Byte × State :=
  ((answer s).1, emit (.ioRead a (answer s).1) (answer s).2)

/-- `PaceRead()` (40 R92): the answer is discarded. -/
def paceRead (s : State) : State := (portRead s.cfg.pacePort s).2

/-- `DmaProgram(ch, addr, len)` (40 R93). -/
def dmaProgram (ch : BitVec 3) (addr : Addr) (len : BitVec 32) (s : State) : State :=
  emit (.dmaProgram ch addr len) { s with env := { s.env with dma := some ⟨ch, addr, len⟩ } }

/-- `CfgRead(i)` (40 R94). -/
def cfgRead (i : Byte) (s : State) : Byte × State :=
  ((answer s).1, emit (.cfgRead i (answer s).1) (answer s).2)

/-- `MemRead(SYS, a, 1)` (40 R95): whatever SYS holds at that moment. -/
def memRead (a : Addr) (s : State) : Byte × State := (s.sysByte a, emit (.memRead a (s.sysByte a)) s)

/-- `MemWrite(SYS, a, 1, v)` (40 R96). -/
def memWrite (a : Addr) (v : Byte) (s : State) : State := emit (.memWrite a v) (s.setSys a v)

/-- `PollCS()` (42 R111). -/
def pollCS (s : State) : Bool × State := (s.reg.cs, emit (.pollCS s.reg.cs) s)

-- The stack of sequences (10 R14)

/-- Replaces the stack. -/
def State.withSpc (s : State) (l : List Frame) : State := { s with reg := { s.reg with spc := l } }

/-- The return of a sequence: its frame is gone, `below` is what lay under it, and the outcome is
handed to the caller's frame (10 R14). A return with no caller's frame is no case of the spec. -/
def returnTo (below : List Frame) (o : SeqOutcome) (s : State) : Result :=
  match below with
  | [] => .fault .noCaller
  | _ :: _ => .next { s with reg := { s.reg with spc := below, ret := o } }

/-- A call of SENDFRAME with a frame loaded into `FB` first (41 R102). -/
def callSend (d : DriveId) (n : SendLen) (bytes : List Byte) (below : List Frame) (s : State) : State :=
  { s with reg := { s.reg with
      fb := loadFrame bytes 0 s.reg.fb, spc := .sendframe .start d n :: below } }

-- Failures (60 R200, R201): raising one, and the end of a command

/-- "record `c` in `ERR`": only where `ERR` holds 0 (60 R201). -/
def record (c : Cause) (s : State) : State :=
  { s with reg := { s.reg with err := if s.reg.err = 0 then c.code else s.reg.err } }

/-- `raise Fail(c)` inside a sequence (60 R201): the first cause is recorded, the sequence is left
with outcome `Fail(c)`. This is the block's exception entry: it saves nothing else. -/
def raiseFail (c : Cause) (below : List Frame) (s : State) : Result :=
  returnTo below (.fail c) (record c s)

/-- `Respond(ok, value, ERR)` (46 R178): the response, and back to idle. The block's only "return"
from a failure (60 R211). -/
def respond (ok : Bool) (value : BitVec 32) (s : State) : State :=
  emit (.respond ok value s.reg.err) (s.withSpc [.idle])

/-- The failure sentinel (30 R63). -/
def failSentinel : BitVec 32 := 0xFFFFFFFF

/-- `raise Fail(c)` at the level of a host operation (46 R178). -/
def raiseHost (c : Cause) (s : State) : State := respond false failSentinel (record c s)

-- Host commands (46 R170)

/-- ACCEPT with dispatch (46 R170, R171): one step, only when the block is idle; a command presented
while it is busy waits at the port. -/
def accept (ctl : Byte) (a : BitVec 64) (b : BitVec 32) (f : Frame) (s : State) : State :=
  if s.idle then { s with reg := { s.reg with ctl := ctl, a := a, b := b, err := 0, spc := [f] } }
  else { s with env := { s.env with cmd := some ⟨ctl, a, b⟩ } }

/-- Dispatch on a control byte (46 R171): the frame of the operation. -/
def dispatch (ctl : Byte) : Frame :=
  if ctl.extractLsb' 6 2 ≠ (0 : BitVec 2) then .opIllegal
  else match (ctl.extractLsb' 0 3 : BitVec 3).toNat with
    | 0 => .opOpen .start
    | 1 => .opClose .start
    | 2 => .opRead .start
    | 3 => .opWrite
    | 4 => .opSeek
    | _ => .opIllegal

-- Drive records

/-- What INIT does for one drive and its type code (47 R190): a code 1 to 5 constructs and registers
the drive, any other leaves the slot absent. -/
def detectDrive (d : DriveId) (t : BitVec 4) (s : State) : State :=
  if detected t then
    emit (.register d (devName s.cfg d))
      (s.setDrv d { s.drv d with geom := t.truncate 3, lock := false, present := true })
  else s

/-- The result code and reported cylinder of `RF[0]`, `RF[1]` go to the drive together (42 R112). -/
def keepStatus (d : DriveId) (s : State) : State :=
  s.setDrv d { s.drv d with st0 := s.reg.rf[0], rcyl := s.reg.rf[1] }

/-- `DRV[d].cur_cyl <- DRV[d].rcyl` (10 R20). -/
def confirmCylinder (d : DriveId) (s : State) : State :=
  s.setDrv d { s.drv d with curCyl := (s.drv d).rcyl }

-- The translator (43 R120)

/-- XLATE with `H`, `S` at least 1; no value for a zero divisor (43 R124). -/
def xlate (b h n : Nat) (s : State) : Option State :=
  if h = 0 ∨ n = 0 then none
  else some { s with reg := { s.reg with
    xc := BitVec.ofNat 32 (b / (n * h))
    xh := BitVec.ofNat 32 (b % (n * h) / n)
    xs := BitVec.ofNat 32 (b % n + 1) } }

-- The byte primitives' test of a status byte (41 R100, R101)

/-- SENDBYTE with a status byte in `MSRV`: write the data byte when the send condition holds, else a
discard read (41 R100). -/
def sendTest (d : DriveId) (v : Byte) (below : List Frame) (s : State) : State :=
  if sendReady s.cfg s.reg.msrv then
    (portWrite (dataPort s.cfg d) v s).withSpc (.sendbyte .moved d v :: below)
  else (paceRead s).withSpc (.sendbyte .paced d v :: below)

/-- GETBYTE with a status byte in `MSRV`: read the data byte into `RB` when the receive condition
holds, else a discard read (41 R101). -/
def getTest (d : DriveId) (below : List Frame) (s : State) : State :=
  if recvReady s.cfg s.reg.msrv then
    let r := portRead (dataPort s.cfg d) s
    { r.2 with reg := { r.2.reg with rb := r.1, spc := .getbyte .moved d :: below } }
  else (paceRead s).withSpc (.getbyte .paced d :: below)

/-- A status read: `MSRV` takes the answer and the primitive goes on to its test (41 R100, R101). -/
def readStatus (d : DriveId) (stack : List Frame) (s : State) : State :=
  let r := portRead (msrPort s.cfg d) s
  { r.2 with reg := { r.2.reg with msrv := r.1, spc := stack } }

-- Step 8 of READBLOCK (45 R150, R154, R155)

/-- The success check on `DRV[d].st0`: MOTOROFF on the way to the copy, else COMMAND_FAILURE is
recorded and RECALIBRATE called (45 R154, R155). -/
def stepEight (d : DriveId) (b : BitVec 32) (buf : Addr) (below : List Frame) (s : State) : State :=
  if completionOk s.cfg (s.drv d).st0 then
    s.withSpc (.motoroff .start d :: .readblock .quieting d b buf :: below)
  else
    (record .commandFailure s).withSpc (.recalibrate .start d :: .readblock .rehoming d b buf :: below)

end Sys2Proof.Machine
end

