-- ==== Sys2Proof/Machine/BlockIo.lean ====
section
/-! DEFINITION. The block I/O engine (45_block_io.md): READBLOCK and COPYBLK. -/

namespace Sys2Proof.Machine

/-- `TRY <- TRY + 1` and MOTORON: the head of an attempt (45 R150 step 2, R151). -/
def startAttempt (d : DriveId) (b : BitVec 32) (buf : Addr) (below : List Frame) (s : State) : State :=
  { s with reg := { s.reg with
      tries := s.reg.tries + 1, spc := .motoron .start d :: .readblock .spinning d b buf :: below } }

/-- A failure of the READ frame, the WAIT or the drain: a full RESETSEQ, then `Fail(c)` (45 R153). -/
def transferFailed (c : Cause) (d : DriveId) (b : BitVec 32) (buf : Addr) (below : List Frame)
    (s : State) : State :=
  s.withSpc (.resetseq .start d :: .readblock (.resetting c) d b buf :: below)

/-- READBLOCK (45 R150), places in the order of its steps. -/
def execSeqReadblock (s : State) : Result :=
  match s.reg.spc with
  | .readblock .start d b buf :: below =>
    match xlate b.toNat (s.geomOf d).heads (s.geomOf d).sectors s with
    | none => .fault .xlateDomain
    | some s' => .next (startAttempt d b buf below { s' with reg := { s'.reg with tries := 0 } })
  | .readblock .spinning d b buf :: below =>
    .next (s.withSpc (.seekcyl .start d (s.reg.xc.truncate 8) :: .readblock .seeking d b buf :: below))
  | .readblock .seeking d b buf :: below =>
    match s.reg.ret with
    | .fail c => .next (s.withSpc (.motoroff .start d :: .readblock (.seekAborting c) d b buf :: below))
    | _ =>
      .next ((dmaProgram s.cfg.dmaCh s.cfg.dmaBufAddr (BitVec.ofNat 32 blockSize) s).withSpc
        (.readblock .programmed d b buf :: below))
  | .readblock .programmed d b buf :: below =>
    .next (callSend d .nine
      (readFrame s.cfg (dsel s.cfg d) s.reg.xc s.reg.xh s.reg.xs (BitVec.ofNat 8 (s.geomOf d).sectors))
      (.readblock .sending d b buf :: below) s)
  | .readblock .sending d b buf :: below =>
    match s.reg.ret with
    | .fail c => .next (transferFailed c d b buf below s)
    | _ => .next (s.withSpc (.wait .start d :: .readblock .waiting d b buf :: below))
  | .readblock .waiting d b buf :: below =>
    match s.reg.ret with
    | .fail c => .next (transferFailed c d b buf below s)
    | _ => .next (s.withSpc (.getframe .start d .seven :: .readblock .draining d b buf :: below))
  | .readblock .draining d b buf :: below =>
    match s.reg.ret with
    | .fail c => .next (transferFailed c d b buf below s)
    | _ => .next (stepEight d b buf below s)
  | .readblock .quieting d b buf :: below =>
    .next (s.withSpc (.copyblk .start buf :: .readblock .copying d b buf :: below))
  | .readblock .copying _ _ _ :: below => returnTo below .ok s
  | .readblock .rehoming d b buf :: below =>
    if s.reg.tries.toNat < maxTries then .next (startAttempt d b buf below s)
    else returnTo below (.fail .commandFailure) s
  | .readblock (.seekAborting c) _ _ _ :: below => returnTo below (.fail c) s
  | .readblock (.resetting c) _ _ _ :: below => returnTo below (.fail c) s
  | _ => .fault .notInProgress

/-- COPYBLK reads the next byte of the DMA buffer into `CD` (45 R157). -/
def copyRead (buf : Addr) (below : List Frame) (s : State) : State :=
  let r := memRead (s.cfg.dmaBufAddr + s.reg.ci.zeroExtend 32) s
  { r.2 with reg := { r.2.reg with cd := r.1, spc := .copyblk .loaded buf :: below } }

/-- COPYBLK (45 R157). -/
def execSeqCopyblk (s : State) : Result :=
  match s.reg.spc with
  | .copyblk .start buf :: below => .next (copyRead buf below { s with reg := { s.reg with ci := 0 } })
  | .copyblk .loaded buf :: below =>
    .next ((memWrite (buf + s.reg.ci.zeroExtend 32) s.reg.cd s).withSpc (.copyblk .stored buf :: below))
  | .copyblk .stored buf :: below =>
    let s' := { s with reg := { s.reg with ci := s.reg.ci + 1 } }
    if s'.reg.ci.toNat < blockSize then .next (copyRead buf below s') else returnTo below .ok s'
  | _ => .fault .notInProgress

end Sys2Proof.Machine
end

