-- ==== Sys2Proof/Machine/ByteProtocol.lean ====
section
/-! DEFINITION. The byte-protocol layer (41_byte_protocol.md): SENDBYTE, GETBYTE, SENDFRAME, GETFRAME, place by place. -/

namespace Sys2Proof.Machine

/-- SENDBYTE (41 R100). -/
def execSeqSendbyte (s : State) : Result :=
  match s.reg.spc with
  | .sendbyte .start d v :: below =>
    .next (readStatus d (.sendbyte .tested d v :: below) { s with reg := { s.reg with pcnt := 0 } })
  | .sendbyte .tested d v :: below => .next (sendTest d v below s)
  | .sendbyte .paced d v :: below =>
    let s' := { s with reg := { s.reg with pcnt := s.reg.pcnt + 1 } }
    if s'.reg.pcnt = s.cfg.pollLimit then raiseFail .byteTimeout below s'
    else .next (readStatus d (.sendbyte .tested d v :: below) s')
  | .sendbyte .moved _ _ :: below => returnTo below .ok s
  | _ => .fault .notInProgress

/-- GETBYTE (41 R101). -/
def execSeqGetbyte (s : State) : Result :=
  match s.reg.spc with
  | .getbyte .start d :: below =>
    .next (readStatus d (.getbyte .tested d :: below) { s with reg := { s.reg with pcnt := 0 } })
  | .getbyte .tested d :: below => .next (getTest d below s)
  | .getbyte .paced d :: below =>
    let s' := { s with reg := { s.reg with pcnt := s.reg.pcnt + 1 } }
    if s'.reg.pcnt = s.cfg.pollLimit then raiseFail .byteTimeout below s'
    else .next (readStatus d (.getbyte .tested d :: below) s')
  | .getbyte .moved _ :: below => returnTo below (.okValue (s.reg.rb.zeroExtend 32)) s
  | _ => .fault .notInProgress

/-- `FB[i]`; the loop of 41 R102 asks for entries 0 to 8 only. -/
def fbAt (s : State) (i : Nat) : Byte := if h : i < 9 then s.reg.fb[i] else 0

/-- The head of SENDFRAME's loop (41 R102): the next SENDBYTE while `FI < n`, else `Ok`. -/
def sendLoop (d : DriveId) (n : SendLen) (below : List Frame) (s : State) : Result :=
  if s.reg.fi.toNat < n.bytes then
    .next (s.withSpc (.sendbyte .start d (fbAt s s.reg.fi.toNat) :: .sendframe .moving d n :: below))
  else returnTo below .ok s

/-- SENDFRAME (41 R102). -/
def execSeqSendframe (s : State) : Result :=
  match s.reg.spc with
  | .sendframe .start d n :: below => sendLoop d n below { s with reg := { s.reg with fi := 0 } }
  | .sendframe .moving d n :: below =>
    match s.reg.ret with
    | .fail c => returnTo below (.fail c) s
    | _ => sendLoop d n below { s with reg := { s.reg with fi := s.reg.fi + 1 } }
  | _ => .fault .notInProgress

/-- The head of GETFRAME's loop (41 R103): the next GETBYTE while `FI < n`, else `Ok`. -/
def getLoop (d : DriveId) (n : GetLen) (below : List Frame) (s : State) : Result :=
  if s.reg.fi.toNat < n.bytes then
    .next (s.withSpc (.getbyte .start d :: .getframe .moving d n :: below))
  else returnTo below .ok s

/-- GETFRAME (41 R103). -/
def execSeqGetframe (s : State) : Result :=
  match s.reg.spc with
  | .getframe .start d n :: below => getLoop d n below { s with reg := { s.reg with fi := 0 } }
  | .getframe .moving d n :: below =>
    match s.reg.ret with
    | .fail c => returnTo below (.fail c) s
    | _ => getLoop d n below { s with reg := { s.reg with
        rf := s.reg.rf.setIfInBounds s.reg.fi.toNat s.reg.rb, fi := s.reg.fi + 1 } }
  | _ => .fault .notInProgress

end Sys2Proof.Machine
end

