-- ==== Sys2Proof/Machine/DriveMachine.lean ====
section
/-! DEFINITION. The drive state machine (44_drive_state_machine.md): MOTORON, MOTOROFF, RECALIBRATE, SEEKCYL, RESETSEQ. -/

namespace Sys2Proof.Machine

/-- MOTORON (44 R130). -/
def execSeqMotoron (s : State) : Result :=
  match s.reg.spc with
  | .motoron .start d :: below =>
    .next ((portWrite (dorPort s.cfg d) (dorRunByte s.cfg d) s).withSpc (.motoron .done d :: below))
  | .motoron .done _ :: below => returnTo below .ok s
  | _ => .fault .notInProgress

/-- MOTOROFF (44 R131). -/
def execSeqMotoroff (s : State) : Result :=
  match s.reg.spc with
  | .motoroff .start d :: below =>
    .next ((portWrite (dorPort s.cfg d) (dorStopByte s.cfg d) s).withSpc (.motoroff .done d :: below))
  | .motoroff .done _ :: below => returnTo below .ok s
  | _ => .fault .notInProgress

/-- RECALIBRATE (44 R132): MOTOROFF on every path. -/
def execSeqRecalibrate (s : State) : Result :=
  match s.reg.spc with
  | .recalibrate .start d :: below =>
    .next (s.withSpc (.motoron .start d :: .recalibrate .spinning d :: below))
  | .recalibrate .spinning d :: below =>
    .next (callSend d .two (recalFrame s.cfg (dsel s.cfg d)) (.recalibrate .sending d :: below) s)
  | .recalibrate .sending d :: below =>
    match s.reg.ret with
    | .fail c => .next (s.withSpc (.motoroff .start d :: .recalibrate (.stopping (.fail c)) d :: below))
    | _ => .next (s.withSpc (.wait .start d :: .recalibrate .waiting d :: below))
  | .recalibrate .waiting d :: below =>
    match s.reg.ret with
    | .fail c => .next (s.withSpc (.motoroff .start d :: .recalibrate (.stopping (.fail c)) d :: below))
    | _ => .next ((confirmCylinder d s).withSpc (.motoroff .start d :: .recalibrate (.stopping .ok) d :: below))
  | .recalibrate (.stopping r) _ :: below => returnTo below r s
  | _ => .fault .notInProgress

/-- SEEKCYL (44 R133). -/
def execSeqSeekcyl (s : State) : Result :=
  match s.reg.spc with
  | .seekcyl .start d t :: below =>
    if (s.drv d).curCyl = t then returnTo below .ok s
    else .next (callSend d .three (seekFrame s.cfg (dsel s.cfg d) t) (.seekcyl .sending d t :: below) s)
  | .seekcyl .sending d t :: below =>
    match s.reg.ret with
    | .fail c => returnTo below (.fail c) s
    | _ => .next (s.withSpc (.wait .start d :: .seekcyl .waiting d t :: below))
  | .seekcyl .waiting d t :: below =>
    match s.reg.ret with
    | .fail c => returnTo below (.fail c) s
    | _ =>
      if (s.drv d).rcyl ≠ t then raiseFail .seekVerify below (confirmCylinder d s)
      else returnTo below .ok (confirmCylinder d s)
  | _ => .fault .notInProgress

/-- RESETSEQ (44 R134): no early exit; the outcome is the first failure, or `Ok`. -/
def execSeqResetseq (s : State) : Result :=
  match s.reg.spc with
  | .resetseq .start d :: below =>
    .next ((portWrite (dorPort s.cfg d) dorDisableByte s).withSpc (.resetseq .enable d :: below))
  | .resetseq .enable d :: below =>
    .next ((portWrite (dorPort s.cfg d) (dorEnableByte s.cfg) s).withSpc (.resetseq .selfTest d :: below))
  | .resetseq .selfTest d :: below =>
    .next (s.withSpc (.wait .start d :: .resetseq .testing d :: below))
  | .resetseq .testing d :: below =>
    .next ((portWrite (ccrPort s.cfg d) s.cfg.rateDefault s).withSpc (.resetseq (.rated s.reg.ret) d :: below))
  | .resetseq (.rated r1) d :: below =>
    .next (s.withSpc (.recalibrate .start d :: .resetseq (.homing r1) d :: below))
  | .resetseq (.homing r1) _ :: below =>
    match r1 with
    | .fail c => returnTo below (.fail c) s
    | _ => returnTo below s.reg.ret s
  | _ => .fault .notInProgress

end Sys2Proof.Machine
end

