-- ==== Sys2Proof/Machine/FrontEnd.lean ====
section
/-! DEFINITION. The device front-end (46_front_end.md): IDLE, OPEN, CLOSE, READ, WRITE, SEEK, ILLEGAL. -/

namespace Sys2Proof.Machine

/-- IDLE (46 R170): waits; a command on the port is accepted and dispatched on its control byte. -/
def execSeqIdle (s : State) : Result :=
  match s.reg.spc with
  | .idle :: _ =>
    match s.env.cmd with
    | none => .next s
    | some c => .next (accept c.ctl c.a c.b (dispatch c.ctl) { s with env := { s.env with cmd := none } })
  | _ => .fault .notInProgress

/-- The drive OPEN's name matches (46 R172): a present drive, drive 0 first. -/
def State.openMatch (s : State) (name : DevName) : Option DriveId :=
  if s.reg.drv0.present ∧ s.cfg.name0 = name then some .d0
  else if s.reg.drv1.present ∧ s.cfg.name1 = name then some .d1
  else none

/-- OPEN (46 R172): the test of the lock and its setting in one step (20 R51(b)). -/
def execSeqOpen (s : State) : Result :=
  match s.reg.spc with
  | .opOpen .start :: below =>
    match s.openMatch s.reg.a with
    | none => .next (raiseHost .noDevice s)
    | some d =>
      if (s.drv d).lock then .next (raiseHost .resourceBusy s)
      else .next ((s.setDrv d { s.drv d with lock := true }).withSpc
        (.resetseq .start d :: .opOpen (.resetting d) :: below))
  | .opOpen (.resetting d) :: _ => .next (respond true (driveNumber d) s)
  | _ => .fault .notInProgress

/-- CLOSE (46 R173). -/
def execSeqClose (s : State) : Result :=
  match s.reg.spc with
  | .opClose .start :: below =>
    if s.valid s.handle then .next (s.withSpc (.motoroff .start s.handle :: .opClose .stopping :: below))
    else .next (raiseHost .badHandle s)
  | .opClose .stopping :: _ =>
    .next (respond true 0 (s.setDrv s.handle { s.drv s.handle with cursor := 0, lock := false }))
  | _ => .fault .notInProgress

/-- READ (46 R174): handle, size, range, in this order (60 R208); then READBLOCK on the cursor. -/
def execSeqRead (s : State) : Result :=
  let h := s.handle
  match s.reg.spc with
  | .opRead .start :: below =>
    if s.valid h = false then .next (raiseHost .badHandle s)
    else if s.reg.b.toNat < blockSize then .next (raiseHost .shortBuffer s)
    else if inrange (s.drv h).cursor.toNat (s.geomOf h).cyls (s.geomOf h).heads (s.geomOf h).sectors = false then
      .next (raiseHost .outOfRange s)
    else .next (s.withSpc (.readblock .start h (s.drv h).cursor s.bufOperand :: .opRead .reading :: below))
  | .opRead .reading :: _ =>
    match s.reg.ret with
    | .fail _ => .next (respond false failSentinel s)
    | _ =>
      .next (respond true (BitVec.ofNat 32 blockSize)
        (s.setDrv h { s.drv h with cursor := (s.drv h).cursor + 1 }))
  | _ => .fault .notInProgress

/-- WRITE (46 R175): always UNSUPPORTED, no check at all. -/
def execSeqWrite (s : State) : Result :=
  match s.reg.spc with
  | .opWrite :: _ => .next (raiseHost .unsupported s)
  | _ => .fault .notInProgress

/-- SEEK (46 R176): `cursor <- offset div BLOCK`; `origin` has no effect (30 R65). -/
def execSeqSeek (s : State) : Result :=
  match s.reg.spc with
  | .opSeek :: _ =>
    if s.valid s.handle then
      let cursor := BitVec.ofNat 32 (s.reg.b.toNat / blockSize)
      .next (respond true cursor (s.setDrv s.handle { s.drv s.handle with cursor := cursor }))
    else .next (raiseHost .badHandle s)
  | _ => .fault .notInProgress

/-- ILLEGAL (46 R177). -/
def execSeqIllegal (s : State) : Result :=
  match s.reg.spc with
  | .opIllegal :: _ => .next (raiseHost .illegalCommand s)
  | _ => .fault .notInProgress

end Sys2Proof.Machine
end

