-- ==== Sys2Proof/Machine/GeometryUnit.lean ====
section
/-! DEFINITION. The geometry translator (43_geometry.md): XLATE and INRANGE as instructions with their operands. -/

namespace Sys2Proof.Machine

/-- XLATE (43 R120). -/
def execSeqXlate (b : BitVec 32) (heads sectors : Byte) (s : State) : Result :=
  match xlate b.toNat heads.toNat sectors.toNat s with
  | some s' => .next { s' with reg := { s'.reg with ret := .ok } }
  | none => .fault .xlateDomain

/-- INRANGE (43 R121): writes no register of the block; its bit is handed on. -/
def execSeqInrange (b : BitVec 32) (cyls : BitVec 16) (heads sectors : Byte) (s : State) : Result :=
  .next { s with reg := { s.reg with
    ret := .okValue (if inrange b.toNat cyls.toNat heads.toNat sectors.toNat then 1 else 0) } }

end Sys2Proof.Machine
end

