-- ==== Sys2Proof/Machine/HostCommands.lean ====
section
/-! DEFINITION. The meanings of the host commands: ACCEPT (46 R170) with the dispatch the control byte names (46 R171). -/

namespace Sys2Proof.Machine

/-- OPEN presented (30 R61, op 0): accepted when idle, waits at the port when busy. -/
def execHostOpen (h : BitVec 1) (origin : BitVec 2) (a : BitVec 64) (b : BitVec 32) (s : State) : Result :=
  .next (accept (hostControl 0 h origin) a b (.opOpen .start) s)

/-- CLOSE presented (30 R61, op 1). -/
def execHostClose (h : BitVec 1) (origin : BitVec 2) (a : BitVec 64) (b : BitVec 32) (s : State) : Result :=
  .next (accept (hostControl 1 h origin) a b (.opClose .start) s)

/-- READ presented (30 R61, op 2). -/
def execHostRead (h : BitVec 1) (origin : BitVec 2) (a : BitVec 64) (b : BitVec 32) (s : State) : Result :=
  .next (accept (hostControl 2 h origin) a b (.opRead .start) s)

/-- WRITE presented (30 R61, op 3). -/
def execHostWrite (h : BitVec 1) (origin : BitVec 2) (a : BitVec 64) (b : BitVec 32) (s : State) : Result :=
  .next (accept (hostControl 3 h origin) a b .opWrite s)

/-- SEEK presented (30 R61, op 4). -/
def execHostSeek (h : BitVec 1) (origin : BitVec 2) (a : BitVec 64) (b : BitVec 32) (s : State) : Result :=
  .next (accept (hostControl 4 h origin) a b .opSeek s)

/-- A control byte with `op` 5 presented (30 R64, 46 R177). -/
def execIllegalOp5 (mid : BitVec 3) (a : BitVec 64) (b : BitVec 32) (s : State) : Result :=
  .next (accept (illegalOpControl 5 mid) a b .opIllegal s)

/-- A control byte with `op` 6 presented (30 R64, 46 R177). -/
def execIllegalOp6 (mid : BitVec 3) (a : BitVec 64) (b : BitVec 32) (s : State) : Result :=
  .next (accept (illegalOpControl 6 mid) a b .opIllegal s)

/-- A control byte with `op` 7 presented (30 R64, 46 R177). -/
def execIllegalOp7 (mid : BitVec 3) (a : BitVec 64) (b : BitVec 32) (s : State) : Result :=
  .next (accept (illegalOpControl 7 mid) a b .opIllegal s)

/-- A control byte with reserved bits 01 presented (30 R64, 46 R177). -/
def execIllegalRsv1 (low : BitVec 6) (a : BitVec 64) (b : BitVec 32) (s : State) : Result :=
  .next (accept (illegalRsvControl 1 low) a b .opIllegal s)

/-- A control byte with reserved bits 10 presented (30 R64, 46 R177). -/
def execIllegalRsv2 (low : BitVec 6) (a : BitVec 64) (b : BitVec 32) (s : State) : Result :=
  .next (accept (illegalRsvControl 2 low) a b .opIllegal s)

/-- A control byte with reserved bits 11 presented (30 R64, 46 R177). -/
def execIllegalRsv3 (low : BitVec 6) (a : BitVec 64) (b : BitVec 32) (s : State) : Result :=
  .next (accept (illegalRsvControl 3 low) a b .opIllegal s)

end Sys2Proof.Machine
end

