-- ==== Sys2Proof/Machine/InterruptSync.lean ====
section
/-! DEFINITION. Interrupt synchronization (42_interrupt_sync.md): IRQ and WAIT. -/

namespace Sys2Proof.Machine

/-- IRQ, the interrupt agent's step `IrqFire` (42 R110). -/
def execSeqIrq (s : State) : Result :=
  .next { s with reg := { s.reg with cs := if s.reg.ie then true else s.reg.cs } }

/-- One poll of WAIT (42 R112): a 1 is consumed in the same step. -/
def waitPoll (d : DriveId) (below : List Frame) (s : State) : State :=
  let r := pollCS s
  if r.1 then { r.2 with reg := { r.2.reg with cs := false, spc := .wait .signalled d :: below } }
  else r.2.withSpc (.wait .missed d :: below)

/-- WAIT after a poll that saw 0 (42 R112): with a limit `some L` the poll is counted and the L-th
raises LOST_INTERRUPT; without one the polls go on uncounted. -/
def waitMissed (d : DriveId) (below : List Frame) (s : State) : Result :=
  match s.cfg.waitLimit with
  | none => .next (waitPoll d below s)
  | some l =>
    let s' := { s with reg := { s.reg with wcnt := s.reg.wcnt + 1 } }
    if s'.reg.wcnt = l then raiseFail .lostInterrupt below s' else .next (waitPoll d below s')

/-- WAIT (42 R112). -/
def execSeqWait (s : State) : Result :=
  match s.reg.spc with
  | .wait .start d :: below => .next (waitPoll d below { s with reg := { s.reg with wcnt := 0 } })
  | .wait .missed d :: below => waitMissed d below s
  | .wait .signalled d :: below => .next (callSend d .one (senseFrame s.cfg) (.wait .sending d :: below) s)
  | .wait .sending d :: below =>
    match s.reg.ret with
    | .fail c => raiseFail c below s
    | _ => .next (s.withSpc (.getframe .start d .two :: .wait .getting d :: below))
  | .wait .getting d :: below =>
    match s.reg.ret with
    | .fail c => raiseFail c below s
    | _ => returnTo below .ok (keepStatus d s)
  | _ => .fault .notInProgress

end Sys2Proof.Machine
end

