-- ==== Sys2Proof/Machine/RegisterInterface.lean ====
section
/-! DEFINITION. The leaf sequences (40_register_interface.md): one interface event each, the answer handed on as `Ok(v)`. -/

namespace Sys2Proof.Machine

/-- Hands an outcome on (00 R8); the leaf sequences push no frame (10 R14). -/
def handOn (o : SeqOutcome) (s : State) : State := { s with reg := { s.reg with ret := o } }

/-- PORT_WR (40 R90). -/
def execSeqPortWr (a : Port) (v : Byte) (s : State) : Result := .next (handOn .ok (portWrite a v s))

/-- PORT_RD (40 R91). -/
def execSeqPortRd (a : Port) (s : State) : Result :=
  .next (handOn (.okValue ((portRead a s).1.zeroExtend 32)) (portRead a s).2)

/-- PACE_RD (40 R92). -/
def execSeqPaceRd (s : State) : Result := .next (handOn .ok (paceRead s))

/-- DMA_PROG (40 R93). -/
def execSeqDmaProg (ch : BitVec 3) (addr : Addr) (len : BitVec 32) (s : State) : Result :=
  .next (handOn .ok (dmaProgram ch addr len s))

/-- CFG_RD (40 R94). -/
def execSeqCfgRd (i : Byte) (s : State) : Result :=
  .next (handOn (.okValue ((cfgRead i s).1.zeroExtend 32)) (cfgRead i s).2)

/-- MEM_RD (40 R95). -/
def execSeqMemRd (a : Addr) (s : State) : Result :=
  .next (handOn (.okValue ((memRead a s).1.zeroExtend 32)) (memRead a s).2)

/-- MEM_WR (40 R96). -/
def execSeqMemWr (a : Addr) (v : Byte) (s : State) : Result := .next (handOn .ok (memWrite a v s))

end Sys2Proof.Machine
end

