-- ==== Sys2Proof/Machine/RegisterWords.lean ====
section
/-! DEFINITION. The meanings of the register words (30 R72 to R76): a written word is its one port write; a read word is what the block does on that value. -/

namespace Sys2Proof.Machine

/-- `DOR_DISABLE` to the output-control register of the current drive's group (30 R73, 44 R134 step 1). -/
def execDorDisable (s : State) : Result :=
  .next (portWrite (dorPort s.cfg s.currentDrive) dorDisableByte s)

/-- `DOR_ENABLE` (30 R73, 44 R134 step 2). -/
def execDorEnable (s : State) : Result :=
  .next (portWrite (dorPort s.cfg s.currentDrive) (dorEnableByte s.cfg) s)

/-- `DOR_RUN(0)` (30 R73, 44 R130). -/
def execDorRun0 (s : State) : Result := .next (portWrite (dorPort s.cfg .d0) (dorRunByte s.cfg .d0) s)

/-- `DOR_RUN(1)` (30 R73, 44 R130). -/
def execDorRun1 (s : State) : Result := .next (portWrite (dorPort s.cfg .d1) (dorRunByte s.cfg .d1) s)

/-- `DOR_STOP(0)` (30 R73, 44 R131). -/
def execDorStop0 (s : State) : Result := .next (portWrite (dorPort s.cfg .d0) (dorStopByte s.cfg .d0) s)

/-- `DOR_STOP(1)` (30 R73, 44 R131). -/
def execDorStop1 (s : State) : Result := .next (portWrite (dorPort s.cfg .d1) (dorStopByte s.cfg .d1) s)

/-- `RATE_DEFAULT` to the config-control register of the current drive's group (30 R74, 44 R134 step 4). -/
def execRateDefault (s : State) : Result :=
  .next (portWrite (ccrPort s.cfg s.currentDrive) s.cfg.rateDefault s)

/-- The main status byte just read is `v` (30 R72): `MSRV` holds it, and the byte primitive that is at
its test acts on it (41 R100, R101). No other place of a sequence looks at a status byte. -/
def takeStatus (v : Byte) (s : State) : Result :=
  let s' := { s with reg := { s.reg with msrv := v } }
  match s.reg.spc with
  | .sendbyte .tested d x :: below => .next (sendTest d x below s')
  | .getbyte .tested d :: below => .next (getTest d below s')
  | _ => .fault .notInProgress

/-- A status byte with ready set and direction host-to-controller (30 R72, default masks). -/
def execMsrSendReady (others : BitVec 6) (s : State) : Result := takeStatus ((2 : BitVec 2) ++ others) s

/-- A status byte with ready set and direction controller-to-host (30 R72, default masks). -/
def execMsrRecvReady (others : BitVec 6) (s : State) : Result := takeStatus ((3 : BitVec 2) ++ others) s

/-- A result code with completion code 0 (30 R75, default mask): `st0` of the drive of the READBLOCK
whose drain has succeeded is this code, and step 8 is done (45 R154). No other place tests one. -/
def execSt0Success (others : BitVec 6) (s : State) : Result :=
  match s.reg.spc with
  | .readblock .draining d b buf :: below =>
    match s.reg.ret with
    | .fail _ => .fault .notInProgress
    | _ => .next (stepEight d b buf below (s.setDrv d { s.drv d with st0 := (0 : BitVec 2) ++ others }))
  | _ => .fault .notInProgress

/-- The drive-type byte (30 R76): the detection of drive 0, then of drive 1 (47 R190). -/
def execDriveTypeByte (code0 code1 : BitVec 4) (s : State) : Result :=
  .next (detectDrive .d1 code1 (detectDrive .d0 code0 s))

end Sys2Proof.Machine
end

