-- ==== Sys2Proof/Machine/Registry.lean ====
section
/-! DEFINITION. Drive registry and detection (47_registry_detection.md): INIT. -/

namespace Sys2Proof.Machine

/-- INIT (47 R190): read the type byte, drive 0, drive 1, then `IE` and idle. -/
def execSeqInit (s : State) : Result :=
  match s.reg.spc with
  | .init .start :: below =>
    let r := cfgRead s.cfg.cfgIndex s
    .next (r.2.withSpc (.init (.types r.1) :: below))
  | .init (.types v) :: below =>
    .next ((detectDrive .d0 (v.extractLsb' 4 4) s).withSpc (.init (.second v) :: below))
  | .init (.second v) :: below =>
    .next ((detectDrive .d1 (v.extractLsb' 0 4) s).withSpc (.init .install :: below))
  | .init .install :: _ => .next { s with reg := { s.reg with ie := true, spc := [.idle] } }
  | _ => .fault .notInProgress

end Sys2Proof.Machine
end

