-- ==== Sys2Proof/Machine/WireFrames.lean ====
section
/-! DEFINITION. The meanings of the wire frames (30 R66 to R71): a command frame is loaded into `FB` and SENDFRAME started; a result frame is received into `RF`. -/

namespace Sys2Proof.Machine

/-- SENSE INTERRUPT STATUS (30 R67), to the controller of the current drive. -/
def execFdcSenseInterruptStatus (s : State) : Result :=
  .next (callSend s.currentDrive .one (senseFrame s.cfg) s.reg.spc s)

/-- RECALIBRATE (30 R68). -/
def execFdcRecalibrate (k : BitVec 2) (s : State) : Result :=
  .next (callSend s.currentDrive .two (recalFrame s.cfg k) s.reg.spc s)

/-- SEEK (30 R69). -/
def execFdcSeek (k : BitVec 2) (t : Byte) (s : State) : Result :=
  .next (callSend s.currentDrive .three (seekFrame s.cfg k t) s.reg.spc s)

/-- READ (30 R70) with cylinder, head, sector and end-of-track count. -/
def execFdcRead (k : BitVec 2) (cyl head sector eot : Byte) (s : State) : Result :=
  .next (callSend s.currentDrive .nine
    (readFrame s.cfg k (cyl.zeroExtend 32) (head.zeroExtend 32) (sector.zeroExtend 32) eot) s.reg.spc s)

/-- The two-byte result (30 R67): into `RF[0..1]`, and kept in `st0` and `rcyl` of the current drive. -/
def execFdcSisResult (code cyl : Byte) (s : State) : Result :=
  .next (keepStatus s.currentDrive
    { s with reg := { s.reg with rf := (s.reg.rf.set 0 code).set 1 cyl } })

/-- The seven-byte result (30 R71): into `RF[0..6]`, none of it used. -/
def execFdcReadResult (st0 st1 st2 cyl head sector size : Byte) (s : State) : Result :=
  .next { s with reg := { s.reg with rf := #v[st0, st1, st2, cyl, head, sector, size] } }

end Sys2Proof.Machine
end

