-- ==== Sys2Proof/Machine/Dispatch.lean ====
section
/-! DEFINITION. The dispatch: one arm for each row of spec/opcode_table.json, each one call of its meaning. -/

namespace Sys2Proof.Machine

def exec (i : Instr) (s : State) : Host.Outcome State Fault Refusal :=
  match i with
  | .hostOpen h origin a b1 => Sys2Proof.Machine.execHostOpen h origin a b1 s
  | .hostClose h origin a b1 => Sys2Proof.Machine.execHostClose h origin a b1 s
  | .hostRead h origin a b1 => Sys2Proof.Machine.execHostRead h origin a b1 s
  | .hostWrite h origin a b1 => Sys2Proof.Machine.execHostWrite h origin a b1 s
  | .hostSeek h origin a b1 => Sys2Proof.Machine.execHostSeek h origin a b1 s
  | .illegalOp5 mid a b1 => Sys2Proof.Machine.execIllegalOp5 mid a b1 s
  | .illegalOp6 mid a b1 => Sys2Proof.Machine.execIllegalOp6 mid a b1 s
  | .illegalOp7 mid a b1 => Sys2Proof.Machine.execIllegalOp7 mid a b1 s
  | .illegalRsv1 low a b1 => Sys2Proof.Machine.execIllegalRsv1 low a b1 s
  | .illegalRsv2 low a b1 => Sys2Proof.Machine.execIllegalRsv2 low a b1 s
  | .illegalRsv3 low a b1 => Sys2Proof.Machine.execIllegalRsv3 low a b1 s
  | .fdcSenseInterruptStatus => Sys2Proof.Machine.execFdcSenseInterruptStatus s
  | .fdcRecalibrate dsel => Sys2Proof.Machine.execFdcRecalibrate dsel s
  | .fdcSeek dsel target => Sys2Proof.Machine.execFdcSeek dsel target s
  | .fdcRead dsel cyl head sector eot => Sys2Proof.Machine.execFdcRead dsel cyl head sector eot s
  | .fdcSisResult code cyl => Sys2Proof.Machine.execFdcSisResult code cyl s
  | .fdcReadResult status0 status1 status2 cyl head sector size => Sys2Proof.Machine.execFdcReadResult status0 status1 status2 cyl head sector size s
  | .dorDisable => Sys2Proof.Machine.execDorDisable s
  | .dorEnable => Sys2Proof.Machine.execDorEnable s
  | .dorRun0 => Sys2Proof.Machine.execDorRun0 s
  | .dorRun1 => Sys2Proof.Machine.execDorRun1 s
  | .dorStop0 => Sys2Proof.Machine.execDorStop0 s
  | .dorStop1 => Sys2Proof.Machine.execDorStop1 s
  | .rateDefault => Sys2Proof.Machine.execRateDefault s
  | .msrSendReady others => Sys2Proof.Machine.execMsrSendReady others s
  | .msrRecvReady others => Sys2Proof.Machine.execMsrRecvReady others s
  | .st0Success others => Sys2Proof.Machine.execSt0Success others s
  | .driveTypeByte code0 code1 => Sys2Proof.Machine.execDriveTypeByte code0 code1 s
  | .seqIdle => Sys2Proof.Machine.execSeqIdle s
  | .seqInit => Sys2Proof.Machine.execSeqInit s
  | .seqOpen => Sys2Proof.Machine.execSeqOpen s
  | .seqClose => Sys2Proof.Machine.execSeqClose s
  | .seqRead => Sys2Proof.Machine.execSeqRead s
  | .seqWrite => Sys2Proof.Machine.execSeqWrite s
  | .seqSeek => Sys2Proof.Machine.execSeqSeek s
  | .seqReadblock => Sys2Proof.Machine.execSeqReadblock s
  | .seqCopyblk => Sys2Proof.Machine.execSeqCopyblk s
  | .seqXlate b1 heads sectors => Sys2Proof.Machine.execSeqXlate b1 heads sectors s
  | .seqInrange b1 cyls heads sectors => Sys2Proof.Machine.execSeqInrange b1 cyls heads sectors s
  | .seqMotoron => Sys2Proof.Machine.execSeqMotoron s
  | .seqMotoroff => Sys2Proof.Machine.execSeqMotoroff s
  | .seqRecalibrate => Sys2Proof.Machine.execSeqRecalibrate s
  | .seqSeekcyl => Sys2Proof.Machine.execSeqSeekcyl s
  | .seqResetseq => Sys2Proof.Machine.execSeqResetseq s
  | .seqWait => Sys2Proof.Machine.execSeqWait s
  | .seqIrq => Sys2Proof.Machine.execSeqIrq s
  | .seqSendframe => Sys2Proof.Machine.execSeqSendframe s
  | .seqGetframe => Sys2Proof.Machine.execSeqGetframe s
  | .seqSendbyte => Sys2Proof.Machine.execSeqSendbyte s
  | .seqGetbyte => Sys2Proof.Machine.execSeqGetbyte s
  | .seqPortWr a v => Sys2Proof.Machine.execSeqPortWr a v s
  | .seqPortRd a => Sys2Proof.Machine.execSeqPortRd a s
  | .seqPaceRd => Sys2Proof.Machine.execSeqPaceRd s
  | .seqDmaProg ch addr len => Sys2Proof.Machine.execSeqDmaProg ch addr len s
  | .seqCfgRd i1 => Sys2Proof.Machine.execSeqCfgRd i1 s
  | .seqMemRd a => Sys2Proof.Machine.execSeqMemRd a s
  | .seqMemWr a v => Sys2Proof.Machine.execSeqMemWr a v s
  | .seqIllegal => Sys2Proof.Machine.execSeqIllegal s

end Sys2Proof.Machine
end

