-- ==== Sys2Proof/Machine/Sequencer.lean ====
section
/-! DEFINITION. Which instruction comes next, and what the agents around the sequencer do: everything of a step but exec itself. -/

namespace Sys2Proof.Machine

/-- The sequence a frame is of (30 R77), as the instruction that steps it. -/
def Frame.instr : Frame → Instr
  | .idle => .seqIdle
  | .init _ => .seqInit
  | .opOpen _ => .seqOpen
  | .opClose _ => .seqClose
  | .opRead _ => .seqRead
  | .opWrite => .seqWrite
  | .opSeek => .seqSeek
  | .opIllegal => .seqIllegal
  | .readblock _ _ _ _ => .seqReadblock
  | .copyblk _ _ => .seqCopyblk
  | .motoron _ _ => .seqMotoron
  | .motoroff _ _ => .seqMotoroff
  | .recalibrate _ _ => .seqRecalibrate
  | .seekcyl _ _ _ => .seqSeekcyl
  | .resetseq _ _ => .seqResetseq
  | .wait _ _ => .seqWait
  | .sendframe _ _ _ => .seqSendframe
  | .getframe _ _ _ => .seqGetframe
  | .sendbyte _ _ _ => .seqSendbyte
  | .getbyte _ _ => .seqGetbyte

/-- The sequencer's next instruction, and the state it runs in: in IDLE the command on the port, taken
off it (46 R170), else the sequence of the top frame (10 R14). -/
def fetch (s : State) : Option (Instr × State) :=
  match s.reg.spc with
  | [] => none
  | .idle :: _ =>
    match s.env.cmd with
    | none => some (.seqIdle, s)
    | some c => some (decodeHost c.ctl c.a c.b, { s with env := { s.env with cmd := none } })
  | f :: _ => some (f.instr, s)

/-- A sequencer step has ended (00 R9): an interface event has happened, or the block was idle before
(waiting, or an accept, 46 R170), or is idle now (INIT's last step, 47 R190). -/
def stepDone (before after : State) : Bool :=
  after.env.trace.length != before.env.trace.length
    || before.reg.spc.head? == some .idle
    || after.reg.spc.head? == some .idle

/-- One sequencer step (00 R9): the meanings of the instructions that come up are run until one event
has happened. `fuel` bounds the silent control transfers before the event (assumption 2). -/
def sequencerStep (ex : Instr → State → Result) : Nat → State → Result
  | 0, s => .next s
  | fuel + 1, s =>
    match fetch s with
    | none => .fault .noFrame
    | some (i, s') =>
      match ex i s' with
      | .next t => if stepDone s' t then .next t else sequencerStep ex fuel t
      | .fault r => .fault r
      | .refused r => .refused r

/-- More silent transfers than any sequence makes between two events. -/
def silentFuel : Nat := 32

/-- The reset input (70 R230): every register of the block takes its reset value; no event; what lies
outside the block is left as it was. -/
def hardReset (s : State) : State := { s with reg := .reset }

/-- What an agent other than the sequencer does in its step (00 R9, 70 R230); the interrupt agent's
step is the instruction IRQ. The DMA engine writes only after a `DmaProgram` event (R9(4)). -/
def agentStep (ex : Instr → State → Result) (m : Move) (s : State) : Result :=
  match m with
  | .sequencer => sequencerStep ex silentFuel s
  | .irqFire => ex .seqIrq s
  | .dmaWrite i v =>
    match s.env.dma with
    | none => .next s
    | some _ => .next (s.setSys (s.cfg.dmaBufAddr + i.zeroExtend 32) v)
  | .sysWrite a v => .next (s.setSys a v)
  | .present c => .next { s with env := { s.env with cmd := some c } }
  | .rst => .next (hardReset s)

/-- One step of the machine: the issue latch first (assumption 9), else the agent the schedule names
(assumption 3), else the sequencer. A configuration that is not well formed is refused (00 R6). -/
def stepWith (ex : Instr → State → Result) (s : State) : Result :=
  if configOk s.cfg then
    match s.env.issue with
    | some (sp, bs) =>
      match decode sp bs with
      | .ok i => ex i { s with env := { s.env with issue := none } }
      | .error e => .refused (.noSuchInstruction e)
    | none =>
      match s.env.sched with
      | m :: rest => agentStep ex m { s with env := { s.env with sched := rest } }
      | [] => sequencerStep ex silentFuel s
  else .refused .configIllFormed

/-- The frame with which a sequence with frames begins, for drive 0 and operands of zeros. -/
def startFrame (id : Nat) : Option Frame :=
  match id with
  | 0 => some .idle
  | 1 => some (.init .start)
  | 2 => some (.opOpen .start)
  | 3 => some (.opClose .start)
  | 4 => some (.opRead .start)
  | 5 => some .opWrite
  | 6 => some .opSeek
  | 7 => some (.readblock .start .d0 0 0)
  | 8 => some (.copyblk .start 0)
  | 11 => some (.motoron .start .d0)
  | 12 => some (.motoroff .start .d0)
  | 13 => some (.recalibrate .start .d0)
  | 14 => some (.seekcyl .start .d0 0)
  | 15 => some (.resetseq .start .d0)
  | 16 => some (.wait .start .d0)
  | 18 => some (.sendframe .start .d0 .one)
  | 19 => some (.getframe .start .d0 .two)
  | 20 => some (.sendbyte .start .d0 0)
  | 21 => some (.getbyte .start .d0)
  | 29 => some .opIllegal
  | _ => none

/-- The state whose next step runs the instruction of a table word (assumption 10): a host command on
the port of an idle block, a sequence's first frame on `SPC`, any other object in the issue latch.
READBLOCK is placed for a drive that is present and locked, the only kind it runs for (10 R21). -/
def placeWord (s : State) (nbits w : Nat) : State :=
  let clear := { s.env with sched := [], issue := none }
  match nbits with
  | 8 =>
    { s with
      reg := { s.reg with spc := [.idle] }
      env := { clear with cmd := some ⟨BitVec.ofNat 8 w, 0, 0⟩ } }
  | 5 =>
    match startFrame (w % 32) with
    | some .idle => { s with reg := { s.reg with spc := [.idle] }, env := { clear with cmd := none } }
    | some (.readblock p d b buf) =>
      { s with
        reg := { s.reg with
          spc := .readblock p d b buf :: s.reg.spc
          drv0 := { s.reg.drv0 with present := true, geom := 1, lock := true } }
        env := clear }
    | some f => { s with reg := { s.reg with spc := f :: s.reg.spc }, env := clear }
    | none => { s with env := { clear with issue := tableObject nbits w } }
  | _ => { s with env := { clear with issue := tableObject nbits w } }

end Sys2Proof.Machine
end

