-- ==== Sys2Proof/Safety.lean ====
section
/-! DEFINITION. The terms claims use: legal stacks, the invariant of every state a run reaches, when motors may run, runs. -/

namespace Sys2Proof.Machine

/-- Whether `callee` may stand directly above `caller` on `SPC`: the call table of 10 R14 with the
operands the pseudocode passes; `h` is the handle of the command latch. -/
def callOk (h : DriveId) (callee caller : Frame) : Bool :=
  match caller, callee with
  | .opOpen (.resetting d), .resetseq _ e => e == d
  | .opClose .stopping, .motoroff _ e => e == h
  | .opRead .reading, .readblock _ e _ _ => e == h
  | .readblock .spinning d _ _, .motoron _ e => e == d
  | .readblock .seeking d _ _, .seekcyl _ e _ => e == d
  | .readblock (.seekAborting _) d _ _, .motoroff _ e => e == d
  | .readblock .sending d _ _, .sendframe _ e .nine => e == d
  | .readblock .waiting d _ _, .wait _ e => e == d
  | .readblock .draining d _ _, .getframe _ e .seven => e == d
  | .readblock .quieting d _ _, .motoroff _ e => e == d
  | .readblock .copying _ _ buf, .copyblk _ buf' => buf' == buf
  | .readblock .rehoming d _ _, .recalibrate _ e => e == d
  | .readblock (.resetting _) d _ _, .resetseq _ e => e == d
  | .recalibrate .spinning d, .motoron _ e => e == d
  | .recalibrate .sending d, .sendframe _ e .two => e == d
  | .recalibrate .waiting d, .wait _ e => e == d
  | .recalibrate (.stopping _) d, .motoroff _ e => e == d
  | .seekcyl .sending d _, .sendframe _ e .three => e == d
  | .seekcyl .waiting d _, .wait _ e => e == d
  | .resetseq .testing d, .wait _ e => e == d
  | .resetseq (.homing _) d, .recalibrate _ e => e == d
  | .wait .sending d, .sendframe _ e .one => e == d
  | .wait .getting d, .getframe _ e .two => e == d
  | .sendframe .moving d _, .sendbyte _ e _ => e == d
  | .getframe .moving d _, .getbyte _ e => e == d
  | _, _ => false

/-- The frames nobody calls: IDLE, INIT and the host operations (10 R14). -/
def bottomOk : Frame → Bool
  | .idle | .init _ | .opOpen _ | .opClose _ | .opRead _ | .opWrite | .opSeek | .opIllegal => true
  | _ => false

/-- A stack that calls can build: a bottom frame, above each frame one it has called. -/
def stackOk (h : DriveId) : List Frame → Bool
  | [] => false
  | [f] => bottomOk f
  | g :: f :: rest => callOk h g f && stackOk h (f :: rest)

/-- 10 R19 for one record: a present drive has a geometry index 1 to 5. -/
def driveOk (r : Drive) : Bool := !r.present || (1 ≤ r.geom.toNat && r.geom.toNat ≤ 5)

/-- 10 R21 for one frame: READBLOCK, and the reset of an OPEN, run only for a present and locked drive. -/
def frameOk (s : State) : Frame → Bool
  | .readblock _ d _ _ => s.valid d
  | .opOpen (.resetting d) => s.valid d
  | _ => true

/-- The invariant: a well-formed configuration, nothing issued by hand, SYS in canonical form, a legal
stack, `ERR` a cause code (60 R200), 10 R19 and 10 R21. -/
structure Good (s : State) : Prop where
  config : configOk s.cfg = true
  issue : s.env.issue = none
  memory : memOk s.env.sys = true
  stack : stackOk s.handle s.reg.spc = true
  err : s.reg.err.toNat ≤ 11
  drive0 : driveOk s.reg.drv0 = true
  drive1 : driveOk s.reg.drv1 = true
  inUse : ∀ f ∈ s.reg.spc, frameOk s f = true

/-- The default registers (00 R5): bits 7:4 of the output-control register are the motor lines and no
other field lies in them (30 R73); no port of one group is a port of the other. -/
def motorLayout (c : Config) : Prop :=
  c.dorNreset = 0x04 ∧ c.dorDmaen = 0x08 ∧ c.dorMotor = #v[0x10, 0x20, 0x40, 0x80]
    ∧ c.basePrimary = 0x03F0 ∧ c.baseSecondary = 0x0370
    ∧ c.offDor = 2 ∧ c.offMsr = 4 ∧ c.offData = 5 ∧ c.offCcr = 7

/-- The frames during which the motor of their drive may be on: from MOTORON's caller to the write of
MOTOROFF or of RESETSEQ step 1 (44 R135). -/
def mayRun : Frame → Option DriveId
  | .motoroff .start d => some d
  | .readblock .spinning d _ _ | .readblock .seeking d _ _ | .readblock .programmed d _ _ => some d
  | .readblock .sending d _ _ | .readblock .waiting d _ _ | .readblock .draining d _ _ => some d
  | .recalibrate .start d | .recalibrate .spinning d | .recalibrate .sending d => some d
  | .recalibrate .waiting d => some d
  | .resetseq .start d => some d
  | _ => none

/-- A motor line is on only while a frame that will turn it off is on the stack. -/
def MotorGuard (s : State) : Prop :=
  ∀ g k, s.motorLine g k = true →
    ∃ f ∈ s.reg.spc, ∃ d, mayRun f = some d ∧ groupBase s.cfg g = portBase s.cfg d

/-- `k` steps of the machine, up to the first stop. -/
def runs (k : Nat) (s : State) : Result := Host.Core.run core k s

/-- Only the sequencer moves: nothing issued by hand, no other agent scheduled. -/
def State.alone (s : State) : Prop := s.env.issue = none ∧ s.env.sched = []

/-- `s` with new registers and one more event. -/
def State.did (s : State) (e : Event) (r : Regs) : State :=
  { s with reg := r, env := { s.env with trace := e :: s.env.trace } }

/-- `s` with new registers and no event. -/
def State.turned (s : State) (r : Regs) : State := { s with reg := r }

/-- `s` with new registers after a read: the environment's answer is drawn and the event recorded. -/
def State.didRead (s : State) (e : Event) (r : Regs) : State :=
  { s with reg := r, env := { (answer s).2.env with trace := e :: s.env.trace } }

/-- The registers after a port write of `v` to `a`: the shadows of 40 R90. -/
def State.shadowed (s : State) (a : Port) (v : Byte) : Regs :=
  { s.reg with
    dorshPrimary := if a = s.cfg.basePrimary + s.cfg.offDor then v else s.reg.dorshPrimary
    dorshSecondary := if a = s.cfg.baseSecondary + s.cfg.offDor then v else s.reg.dorshSecondary }

/-- The registers with `DRV[d]` replaced. -/
def Regs.setDrv (r : Regs) (d : DriveId) (x : Drive) : Regs :=
  match d with
  | .d0 => { r with drv0 := x }
  | .d1 => { r with drv1 := x }

/-- `ERR` after a cause is raised: the first cause stays (60 R201). -/
def firstCause (e : BitVec 4) (c : Cause) : BitVec 4 := if e = 0 then c.code else e

/-- `s` with other values in the `origin` field of its command latch (30 R60 bits 5:4). -/
def State.setOrigin (s : State) (o : BitVec 2) : State :=
  { s with reg := { s.reg with
      ctl := (s.reg.ctl.extractLsb' 6 2 ++ o : BitVec 4) ++ s.reg.ctl.extractLsb' 0 4 } }

/-- An outcome with its next state changed. -/
def mapNext (f : State → State) : Result → Result
  | .next t => .next (f t)
  | .fault r => .fault r
  | .refused r => .refused r

end Sys2Proof.Machine
end

