-- ==== Sys2Proof/Certificates/Slice0/Obligations.lean ====
section
/-! DEFINITION. The statements for the provers, from the numbered rules of spec/. -/

open Sys2Proof Sys2Proof.Machine

-- Encodings (30_encoding.md)

/-- Decoding the bytes of a well-formed instruction, in its space, gives the instruction back: every
operand at every value. Model's choices: assumption 10. -/
def Obligations.DecodeEncodeRoundTrip : Prop :=
  ∀ i : Instr, i.wellFormed = true → decode (encode i).1 (encode i).2 = .ok i

/-- Bytes that decode are the encoding of what they decode to: no two words of one space stand for the
same instruction and no bit of a word is ignored. Model's choices: assumption 10. -/
def Obligations.EncodeInvertsDecode : Prop :=
  ∀ (sp : Space) (bs : List Byte) (i : Instr), decode sp bs = .ok i → encode i = (sp, bs)

/-- Words written out from 30 R67 to R79 decode to the instruction they stand for (sanity).
Model's choices: assumption 10. -/
def Obligations.WrittenWordsDecode : Prop :=
  decode .host [0x2C, 0, 0, 0, 0, 0, 0, 0, 0, 0x00, 0x06, 0, 0] = .ok (.hostSeek 1 2 0 0x600)
    ∧ decode .host [0x0A, 0x00, 0x10, 0, 0, 0, 0, 0, 0, 0x00, 0x02, 0, 0] = .ok (.hostRead 1 0 0x1000 0x200)
    ∧ decode .host [0x45, 0, 0, 0, 0, 0, 0, 0, 0, 0, 0, 0, 0] = .ok (.illegalRsv1 5 0 0)
    ∧ decode .command [0x0F, 0x01, 0x27] = .ok (.fdcSeek 1 0x27)
    ∧ decode .command [0xE6, 0x05, 0x27, 0x01, 0x09, 0x02, 0x09, 0x1B, 0xFF] = .ok (.fdcRead 1 0x27 1 9 9)
    ∧ decode .result [0x20, 0x05] = .ok (.fdcSisResult 0x20 0x05)
    ∧ decode (.outputControl .motoron) [0x2D] = .ok .dorRun1
    ∧ decode .driveTypes [0x40] = .ok (.driveTypeByte 4 0)
    ∧ decode .sequence [0x14] = .ok .seqSendbyte

/-- Each of the 256 control bytes is one of the five operations or illegal (30 R60, R61, R64). -/
def Obligations.EveryControlByteIsDecided : Prop :=
  ∀ (ctl : Byte) (a : BitVec 64) (b : BitVec 32),
    let rsv : BitVec 2 := ctl.extractLsb' 6 2
    let op : BitVec 3 := ctl.extractLsb' 0 3
    let h : BitVec 1 := ctl.extractLsb' 3 1
    let o : BitVec 2 := ctl.extractLsb' 4 2
    (rsv = 0 → op = 0 → decodeHost ctl a b = .hostOpen h o a b)
      ∧ (rsv = 0 → op = 1 → decodeHost ctl a b = .hostClose h o a b)
      ∧ (rsv = 0 → op = 2 → decodeHost ctl a b = .hostRead h o a b)
      ∧ (rsv = 0 → op = 3 → decodeHost ctl a b = .hostWrite h o a b)
      ∧ (rsv = 0 → op = 4 → decodeHost ctl a b = .hostSeek h o a b)
      ∧ (rsv = 0 → op = 5 → decodeHost ctl a b = .illegalOp5 (ctl.extractLsb' 3 3) a b)
      ∧ (rsv = 0 → op = 6 → decodeHost ctl a b = .illegalOp6 (ctl.extractLsb' 3 3) a b)
      ∧ (rsv = 0 → op = 7 → decodeHost ctl a b = .illegalOp7 (ctl.extractLsb' 3 3) a b)
      ∧ (rsv = 1 → decodeHost ctl a b = .illegalRsv1 (ctl.extractLsb' 0 6) a b)
      ∧ (rsv = 2 → decodeHost ctl a b = .illegalRsv2 (ctl.extractLsb' 0 6) a b)
      ∧ (rsv = 3 → decodeHost ctl a b = .illegalRsv3 (ctl.extractLsb' 0 6) a b)

-- Accepting a host command (46 R170, R171)

/-- Each host command presented to an idle block is accepted: CTL, A, B take the command, `ERR` is
cleared, `SPC` is the frame of the operation; nothing else changes, no event. -/
def Obligations.IdleBlockAcceptsEveryCommand : Prop :=
  ∀ (s : State) (h : BitVec 1) (o : BitVec 2) (m : BitVec 3) (l : BitVec 6) (a : BitVec 64) (b : BitVec 32),
    s.reg.spc = [.idle] →
    let took (ctl : Byte) (f : Frame) : Result :=
      .next (s.turned { s.reg with ctl := ctl, a := a, b := b, err := 0, spc := [f] })
    exec (.hostOpen h o a b) s = took ((0 : BitVec 2) ++ o ++ h ++ (0 : BitVec 3)) (.opOpen .start)
      ∧ exec (.hostClose h o a b) s = took ((0 : BitVec 2) ++ o ++ h ++ (1 : BitVec 3)) (.opClose .start)
      ∧ exec (.hostRead h o a b) s = took ((0 : BitVec 2) ++ o ++ h ++ (2 : BitVec 3)) (.opRead .start)
      ∧ exec (.hostWrite h o a b) s = took ((0 : BitVec 2) ++ o ++ h ++ (3 : BitVec 3)) .opWrite
      ∧ exec (.hostSeek h o a b) s = took ((0 : BitVec 2) ++ o ++ h ++ (4 : BitVec 3)) .opSeek
      ∧ exec (.illegalOp5 m a b) s = took ((0 : BitVec 2) ++ m ++ (5 : BitVec 3)) .opIllegal
      ∧ exec (.illegalOp6 m a b) s = took ((0 : BitVec 2) ++ m ++ (6 : BitVec 3)) .opIllegal
      ∧ exec (.illegalOp7 m a b) s = took ((0 : BitVec 2) ++ m ++ (7 : BitVec 3)) .opIllegal
      ∧ exec (.illegalRsv1 l a b) s = took ((1 : BitVec 2) ++ l) .opIllegal
      ∧ exec (.illegalRsv2 l a b) s = took ((2 : BitVec 2) ++ l) .opIllegal
      ∧ exec (.illegalRsv3 l a b) s = took ((3 : BitVec 2) ++ l) .opIllegal

/-- While the block is busy no host command is sampled: it stands at the port and no register of the
block changes (46 R170). That it replaces a command already waiting there is the model's choice:
assumption 15. -/
def Obligations.BusyBlockLeavesCommandAtPort : Prop :=
  ∀ (s : State) (i : Instr), s.reg.spc ≠ [.idle] → (encode i).1 = .host →
    ∃ c : HostCmd, i = decodeHost c.ctl c.a c.b ∧
      exec i s = .next { s with env := { s.env with cmd := some c } }

/-- What IDLE does with the command on the port is what the decoded host command does: the dispatch of
46 R171 and the decoder agree on all control bytes. With no command it waits, changing nothing. -/
def Obligations.IdleRunsTheDecodedCommand : Prop :=
  ∀ (s : State), s.reg.spc = [.idle] →
    (s.env.cmd = none → exec .seqIdle s = .next s) ∧
    ∀ c : HostCmd, s.env.cmd = some c →
      exec .seqIdle s = exec (decodeHost c.ctl c.a c.b) { s with env := { s.env with cmd := none } }

-- Host operations (46_front_end.md)

/-- OPEN (46 R172) at every place: NO_DEVICE, RESOURCE_BUSY, the lock taken and RESETSEQ called, the
response. Present drives are matched by name, drive 0 first. -/
def Obligations.OpenMatchesLocksAndResets : Prop :=
  ∀ (s : State) (below : List Frame),
    let m0 := s.reg.drv0.present = true ∧ s.cfg.name0 = s.reg.a
    let m1 := s.reg.drv1.present = true ∧ s.cfg.name1 = s.reg.a
    let fails (c : Cause) : Result := .next (s.did (.respond false 0xFFFFFFFF (firstCause s.reg.err c))
      { s.reg with err := firstCause s.reg.err c, spc := [.idle] })
    (s.reg.spc = .opOpen .start :: below → ¬ m0 → ¬ m1 → exec .seqOpen s = fails .noDevice)
      ∧ (∀ d, s.reg.spc = .opOpen .start :: below → (d = .d0 ∧ m0 ∨ d = .d1 ∧ ¬ m0 ∧ m1) →
          (s.drv d).lock = true → exec .seqOpen s = fails .resourceBusy)
      ∧ (∀ d, s.reg.spc = .opOpen .start :: below → (d = .d0 ∧ m0 ∨ d = .d1 ∧ ¬ m0 ∧ m1) →
          (s.drv d).lock = false →
          exec .seqOpen s = .next (s.turned
            { s.reg.setDrv d { s.drv d with lock := true } with
              spc := .resetseq .start d :: .opOpen (.resetting d) :: below }))
      ∧ (∀ d, s.reg.spc = .opOpen (.resetting d) :: below →
          exec .seqOpen s = .next (s.did (.respond true (driveNumber d) s.reg.err) { s.reg with spc := [.idle] }))

/-- CLOSE (46 R173) at every place. -/
def Obligations.CloseStopsZeroesAndUnlocks : Prop :=
  ∀ (s : State) (below : List Frame),
    let h := driveOfBit (s.reg.ctl.extractLsb' 3 1)
    (s.reg.spc = .opClose .start :: below → ¬ ((s.drv h).present = true ∧ (s.drv h).lock = true) →
        exec .seqClose s = .next (s.did (.respond false 0xFFFFFFFF (firstCause s.reg.err .badHandle))
          { s.reg with err := firstCause s.reg.err .badHandle, spc := [.idle] }))
      ∧ (s.reg.spc = .opClose .start :: below → (s.drv h).present = true → (s.drv h).lock = true →
        exec .seqClose s = .next (s.turned
          { s.reg with spc := .motoroff .start h :: .opClose .stopping :: below }))
      ∧ (s.reg.spc = .opClose .stopping :: below →
        exec .seqClose s = .next (s.did (.respond true 0 s.reg.err)
          { s.reg.setDrv h { s.drv h with cursor := 0, lock := false } with spc := [.idle] }))

/-- READ (46 R174) at every place, the checks in the order of 60 R208. Model's choices: assumption 2 for
the places, assumption 5 for the register `ret` that holds READBLOCK's outcome. -/
def Obligations.ReadChecksThenReadsOneBlock : Prop :=
  ∀ (s : State) (below : List Frame),
    let h := driveOfBit (s.reg.ctl.extractLsb' 3 1)
    let g := s.geomOf h
    let ready := (s.drv h).present = true ∧ (s.drv h).lock = true
    let inside := (s.drv h).cursor.toNat < g.cyls * g.heads * g.sectors
    let fails (c : Cause) : Result := .next (s.did (.respond false 0xFFFFFFFF (firstCause s.reg.err c))
      { s.reg with err := firstCause s.reg.err c, spc := [.idle] })
    (s.reg.spc = .opRead .start :: below → ¬ ready → exec .seqRead s = fails .badHandle)
      ∧ (s.reg.spc = .opRead .start :: below → ready → s.reg.b.toNat < 512 → exec .seqRead s = fails .shortBuffer)
      ∧ (s.reg.spc = .opRead .start :: below → ready → 512 ≤ s.reg.b.toNat → ¬ inside →
          exec .seqRead s = fails .outOfRange)
      ∧ (s.reg.spc = .opRead .start :: below → ready → 512 ≤ s.reg.b.toNat → inside →
          exec .seqRead s = .next (s.turned { s.reg with
            spc := .readblock .start h (s.drv h).cursor (s.reg.a.extractLsb' 0 32) :: .opRead .reading :: below }))
      ∧ (∀ c, s.reg.spc = .opRead .reading :: below → s.reg.ret = .fail c →
          exec .seqRead s = .next (s.did (.respond false 0xFFFFFFFF s.reg.err) { s.reg with spc := [.idle] }))
      ∧ (s.reg.spc = .opRead .reading :: below → (∀ c, s.reg.ret ≠ .fail c) →
          exec .seqRead s = .next (s.did (.respond true 512 s.reg.err)
            { s.reg.setDrv h { s.drv h with cursor := (s.drv h).cursor + 1 } with spc := [.idle] }))

/-- WRITE (46 R175) and an illegal command (46 R177) always fail, the response their only event. -/
def Obligations.WriteAndIllegalAlwaysFail : Prop :=
  ∀ (s : State) (below : List Frame),
    let fails (c : Cause) : Result := .next (s.did (.respond false 0xFFFFFFFF (firstCause s.reg.err c))
      { s.reg with err := firstCause s.reg.err c, spc := [.idle] })
    (s.reg.spc = .opWrite :: below → exec .seqWrite s = fails .unsupported)
      ∧ (s.reg.spc = .opIllegal :: below → exec .seqIllegal s = fails .illegalCommand)

/-- SEEK (46 R176): the cursor is the offset divided by 512, also the response; BAD_HANDLE else. -/
def Obligations.SeekSetsTheCursor : Prop :=
  ∀ (s : State) (below : List Frame), s.reg.spc = .opSeek :: below →
    let h := driveOfBit (s.reg.ctl.extractLsb' 3 1)
    let cur : BitVec 32 := s.reg.b >>> 9
    ((s.drv h).present = true → (s.drv h).lock = true →
        exec .seqSeek s = .next (s.did (.respond true cur s.reg.err)
          { s.reg.setDrv h { s.drv h with cursor := cur } with spc := [.idle] }))
      ∧ (¬ ((s.drv h).present = true ∧ (s.drv h).lock = true) →
        exec .seqSeek s = .next (s.did (.respond false 0xFFFFFFFF (firstCause s.reg.err .badHandle))
          { s.reg with err := firstCause s.reg.err .badHandle, spc := [.idle] }))

-- INIT (47 R190)

/-- INIT (47 R190) at every place: the type byte read, drive 0 by the high nibble, drive 1 by the low
nibble (a code 1 to 5 constructs and registers, any other leaves the slot), then `IE` and idle. -/
def Obligations.InitDetectsAndEnables : Prop :=
  ∀ (s : State) (below : List Frame) (v : Byte),
    let t0 : BitVec 4 := v.extractLsb' 4 4
    let t1 : BitVec 4 := v.extractLsb' 0 4
    (s.reg.spc = .init .start :: below →
        exec .seqInit s = .next (s.didRead (.cfgRead s.cfg.cfgIndex (answer s).1)
          { s.reg with spc := .init (.types (answer s).1) :: below }))
      ∧ (s.reg.spc = .init (.types v) :: below → 1 ≤ t0.toNat → t0.toNat ≤ 5 →
        exec .seqInit s = .next (s.did (.register .d0 s.cfg.name0)
          { s.reg with
            drv0 := { s.reg.drv0 with geom := t0.truncate 3, lock := false, present := true }
            spc := .init (.second v) :: below }))
      ∧ (s.reg.spc = .init (.types v) :: below → t0.toNat = 0 ∨ 5 < t0.toNat →
        exec .seqInit s = .next (s.turned { s.reg with spc := .init (.second v) :: below }))
      ∧ (s.reg.spc = .init (.second v) :: below → 1 ≤ t1.toNat → t1.toNat ≤ 5 →
        exec .seqInit s = .next (s.did (.register .d1 s.cfg.name1)
          { s.reg with
            drv1 := { s.reg.drv1 with geom := t1.truncate 3, lock := false, present := true }
            spc := .init .install :: below }))
      ∧ (s.reg.spc = .init (.second v) :: below → t1.toNat = 0 ∨ 5 < t1.toNat →
        exec .seqInit s = .next (s.turned { s.reg with spc := .init .install :: below }))
      ∧ (s.reg.spc = .init .install :: below →
        exec .seqInit s = .next (s.turned { s.reg with ie := true, spc := [.idle] }))

-- READBLOCK and COPYBLK (45_block_io.md)

/-- READBLOCK (45 R150), steps 1 to 5: translate, attempt with MOTORON, seek, abort on a seek failure,
DMA, the nine-byte frame. Model's choices: assumptions 2 and 5. -/
def Obligations.ReadblockTranslatesSeeksAndSends : Prop :=
  ∀ (s : State) (d : DriveId) (b : BitVec 32) (buf : Addr) (below : List Frame) (c : Cause),
    let g := s.geomOf d
    (s.reg.spc = .readblock .start d b buf :: below → g.heads ≠ 0 → g.sectors ≠ 0 →
        exec .seqReadblock s = .next (s.turned { s.reg with
          xc := BitVec.ofNat 32 (b.toNat / (g.sectors * g.heads))
          xh := BitVec.ofNat 32 (b.toNat % (g.sectors * g.heads) / g.sectors)
          xs := BitVec.ofNat 32 (b.toNat % g.sectors + 1)
          tries := 1
          spc := .motoron .start d :: .readblock .spinning d b buf :: below }))
      ∧ (s.reg.spc = .readblock .spinning d b buf :: below →
        exec .seqReadblock s = .next (s.turned { s.reg with
          spc := .seekcyl .start d (s.reg.xc.extractLsb' 0 8) :: .readblock .seeking d b buf :: below }))
      ∧ (s.reg.spc = .readblock .seeking d b buf :: below → s.reg.ret = .fail c →
        exec .seqReadblock s = .next (s.turned { s.reg with
          spc := .motoroff .start d :: .readblock (.seekAborting c) d b buf :: below }))
      ∧ (s.reg.spc = .readblock (.seekAborting c) d b buf :: below → below ≠ [] →
        exec .seqReadblock s = .next (s.turned { s.reg with spc := below, ret := .fail c }))
      ∧ (s.reg.spc = .readblock .seeking d b buf :: below → (∀ c, s.reg.ret ≠ .fail c) →
        exec .seqReadblock s = .next
          { s with
            reg := { s.reg with spc := .readblock .programmed d b buf :: below }
            env := { s.env with
              dma := some ⟨s.cfg.dmaCh, s.cfg.dmaBufAddr, 512⟩
              trace := .dmaProgram s.cfg.dmaCh s.cfg.dmaBufAddr 512 :: s.env.trace } })
      ∧ (s.reg.spc = .readblock .programmed d b buf :: below →
        exec .seqReadblock s = .next (s.turned { s.reg with
          fb := #v[s.cfg.opcRead, ((s.reg.xh <<< 2) ||| (dsel s.cfg d).zeroExtend 32).extractLsb' 0 8,
            s.reg.xc.extractLsb' 0 8, s.reg.xh.extractLsb' 0 8, s.reg.xs.extractLsb' 0 8, 2,
            BitVec.ofNat 8 g.sectors, 0x1B, 0xFF]
          spc := .sendframe .start d .nine :: .readblock .sending d b buf :: below }))

/-- READBLOCK (45 R150), steps 6 to 10: wait, drain, reset on a failure of frame, wait or drain (45 R153),
the success check on the fetched `st0`, copy, recalibrate and at most three attempts (45 R151, R155).
Model's choices: assumptions 2 and 5. -/
def Obligations.ReadblockWaitsChecksAndRetries : Prop :=
  ∀ (s : State) (d : DriveId) (b : BitVec 32) (buf : Addr) (below : List Frame) (c : Cause),
    let goes (l : List Frame) : Result := .next (s.turned { s.reg with spc := l })
    let good := ∀ c, s.reg.ret ≠ .fail c
    let resets := goes (.resetseq .start d :: .readblock (.resetting c) d b buf :: below)
    (s.reg.spc = .readblock .sending d b buf :: below → good →
        exec .seqReadblock s = goes (.wait .start d :: .readblock .waiting d b buf :: below))
      ∧ (s.reg.spc = .readblock .sending d b buf :: below → s.reg.ret = .fail c → exec .seqReadblock s = resets)
      ∧ (s.reg.spc = .readblock .waiting d b buf :: below → good →
        exec .seqReadblock s = goes (.getframe .start d .seven :: .readblock .draining d b buf :: below))
      ∧ (s.reg.spc = .readblock .waiting d b buf :: below → s.reg.ret = .fail c → exec .seqReadblock s = resets)
      ∧ (s.reg.spc = .readblock .draining d b buf :: below → s.reg.ret = .fail c → exec .seqReadblock s = resets)
      ∧ (s.reg.spc = .readblock (.resetting c) d b buf :: below → below ≠ [] →
        exec .seqReadblock s = .next (s.turned { s.reg with spc := below, ret := .fail c }))
      ∧ (s.reg.spc = .readblock .draining d b buf :: below → good → (s.drv d).st0 &&& s.cfg.st0IcMask = 0 →
        exec .seqReadblock s = goes (.motoroff .start d :: .readblock .quieting d b buf :: below))
      ∧ (s.reg.spc = .readblock .draining d b buf :: below → good → (s.drv d).st0 &&& s.cfg.st0IcMask ≠ 0 →
        exec .seqReadblock s = .next (s.turned { s.reg with
          err := firstCause s.reg.err .commandFailure
          spc := .recalibrate .start d :: .readblock .rehoming d b buf :: below }))
      ∧ (s.reg.spc = .readblock .quieting d b buf :: below →
        exec .seqReadblock s = goes (.copyblk .start buf :: .readblock .copying d b buf :: below))
      ∧ (s.reg.spc = .readblock .copying d b buf :: below → below ≠ [] →
        exec .seqReadblock s = .next (s.turned { s.reg with spc := below, ret := .ok }))
      ∧ (s.reg.spc = .readblock .rehoming d b buf :: below → s.reg.tries.toNat < 3 →
        exec .seqReadblock s = .next (s.turned { s.reg with
          tries := s.reg.tries + 1
          spc := .motoron .start d :: .readblock .spinning d b buf :: below }))
      ∧ (s.reg.spc = .readblock .rehoming d b buf :: below → s.reg.tries.toNat = 3 → below ≠ [] →
        exec .seqReadblock s = .next (s.turned { s.reg with spc := below, ret := .fail .commandFailure }))

/-- COPYBLK (45 R157) at every place. Model's choices: assumptions 2 and 5. -/
def Obligations.CopyblkReadsThenWrites : Prop :=
  ∀ (s : State) (buf : Addr) (below : List Frame),
    let reads (ci : BitVec 10) : Result :=
      let a := s.cfg.dmaBufAddr + ci.zeroExtend 32
      let v := memGet s.env.sys a.toNat
      .next (s.did (.memRead a v) { s.reg with ci := ci, cd := v, spc := .copyblk .loaded buf :: below })
    (s.reg.spc = .copyblk .start buf :: below → exec .seqCopyblk s = reads 0)
      ∧ (s.reg.spc = .copyblk .loaded buf :: below →
        let a := buf + s.reg.ci.zeroExtend 32
        exec .seqCopyblk s = .next
          { s with
            reg := { s.reg with spc := .copyblk .stored buf :: below }
            env := { s.env with
              sys := memSet s.env.sys a.toNat s.reg.cd
              trace := .memWrite a s.reg.cd :: s.env.trace } })
      ∧ (s.reg.spc = .copyblk .stored buf :: below → s.reg.ci.toNat < 511 →
        exec .seqCopyblk s = reads (s.reg.ci + 1))
      ∧ (s.reg.spc = .copyblk .stored buf :: below → s.reg.ci.toNat = 511 → below ≠ [] →
        exec .seqCopyblk s = .next (s.turned { s.reg with ci := 512, spc := below, ret := .ok }))

-- The geometry translator (43_geometry.md)

/-- XLATE (43 R120) and INRANGE (43 R121) as instructions; the bit and `Ok` are handed on in the
model's `ret` (assumption 5), every other register stays. Model's choices: assumption 2. -/
def Obligations.TranslatorComputesAddressAndRange : Prop :=
  ∀ (s : State) (b : BitVec 32) (c : BitVec 16) (h n : Byte),
    (h ≠ 0 → n ≠ 0 →
        exec (.seqXlate b h n) s = .next (s.turned { s.reg with
          xc := BitVec.ofNat 32 (b.toNat / (n.toNat * h.toNat))
          xh := BitVec.ofNat 32 (b.toNat % (n.toNat * h.toNat) / n.toNat)
          xs := BitVec.ofNat 32 (b.toNat % n.toNat + 1)
          ret := .ok }))
      ∧ exec (.seqInrange b c h n) s = .next (s.turned { s.reg with
          ret := .okValue (if b.toNat < c.toNat * h.toNat * n.toNat then 1 else 0) })

/-- The three results of XLATE recombine to the block index, for every block and every legal H and S
(43 R122), and for a block in range no truncation of 30 R70 or 44 R133 loses a bit (43 R125). -/
def Obligations.TranslationRoundTripsAndFits : Prop :=
  ∀ (s t : State) (b : BitVec 32) (c : BitVec 16) (h n : Byte) (k : BitVec 2),
    c.toNat ≤ 256 → 1 ≤ h.toNat → h.toNat ≤ 64 → 1 ≤ n.toNat → exec (.seqXlate b h n) s = .next t →
    t.reg.xc.toNat * (h.toNat * n.toNat) + t.reg.xh.toNat * n.toNat + (t.reg.xs.toNat - 1) = b.toNat
      ∧ t.reg.xh.toNat < h.toNat ∧ 1 ≤ t.reg.xs.toNat ∧ t.reg.xs.toNat ≤ n.toNat
      ∧ (b.toNat < c.toNat * h.toNat * n.toNat →
          t.reg.xc.toNat < c.toNat ∧ (t.reg.xc.extractLsb' 0 8).toNat = t.reg.xc.toNat
            ∧ (((t.reg.xh <<< 2) ||| k.zeroExtend 32).extractLsb' 0 8).toNat = t.reg.xh.toNat * 4 + k.toNat)

-- The drive state machine (44_drive_state_machine.md)

/-- MOTORON (44 R130) and MOTOROFF (44 R131) at both places: one write of DOR_RUN(d), DOR_STOP(d), after
which, with the default register layout, the motor of the drive is on, off.
Model's choices: assumptions 2 and 5. -/
def Obligations.MotorSequencesWriteTheirByte : Prop :=
  ∀ (s : State) (d : DriveId) (below : List Frame),
    let a := portBase s.cfg d + s.cfg.offDor
    let k : Byte := (dsel s.cfg d).zeroExtend 8
    let run : Byte := s.cfg.dorDmaen ||| s.cfg.dorNreset ||| k ||| motorMask s.cfg (dsel s.cfg d)
    let stop : Byte := s.cfg.dorDmaen ||| s.cfg.dorNreset ||| k
    (s.reg.spc = .motoron .start d :: below →
        exec .seqMotoron s = .next (s.did (.ioWrite a run)
          { s.shadowed a run with spc := .motoron .done d :: below }))
      ∧ (s.reg.spc = .motoroff .start d :: below →
        exec .seqMotoroff s = .next (s.did (.ioWrite a stop)
          { s.shadowed a stop with spc := .motoroff .done d :: below }))
      ∧ (s.reg.spc = .motoron .done d :: below → below ≠ [] →
        exec .seqMotoron s = .next (s.turned { s.reg with spc := below, ret := .ok }))
      ∧ (s.reg.spc = .motoroff .done d :: below → below ≠ [] →
        exec .seqMotoroff s = .next (s.turned { s.reg with spc := below, ret := .ok }))
      ∧ (motorLayout s.cfg →
        (State.motorOn { s with reg := s.shadowed a run } d = true)
          ∧ State.motorOn { s with reg := s.shadowed a stop } d = false)

/-- RECALIBRATE (44 R132) at every place: MOTOROFF on every path, `cur_cyl` from the report after a WAIT
that returned `Ok`. Model's choices: assumptions 2 and 5. -/
def Obligations.RecalibrateRehomesAndStops : Prop :=
  ∀ (s : State) (d : DriveId) (below : List Frame) (c : Cause) (r : SeqOutcome),
    let goes (l : List Frame) : Result := .next (s.turned { s.reg with spc := l })
    let good := ∀ c, s.reg.ret ≠ .fail c
    let stops := goes (.motoroff .start d :: .recalibrate (.stopping (.fail c)) d :: below)
    (s.reg.spc = .recalibrate .start d :: below →
        exec .seqRecalibrate s = goes (.motoron .start d :: .recalibrate .spinning d :: below))
      ∧ (s.reg.spc = .recalibrate .spinning d :: below →
        exec .seqRecalibrate s = .next (s.turned { s.reg with
          fb := (s.reg.fb.set 0 s.cfg.opcRecal).set 1 ((dsel s.cfg d).zeroExtend 8)
          spc := .sendframe .start d .two :: .recalibrate .sending d :: below }))
      ∧ (s.reg.spc = .recalibrate .sending d :: below → good →
        exec .seqRecalibrate s = goes (.wait .start d :: .recalibrate .waiting d :: below))
      ∧ (s.reg.spc = .recalibrate .sending d :: below → s.reg.ret = .fail c → exec .seqRecalibrate s = stops)
      ∧ (s.reg.spc = .recalibrate .waiting d :: below → s.reg.ret = .fail c → exec .seqRecalibrate s = stops)
      ∧ (s.reg.spc = .recalibrate .waiting d :: below → good →
        exec .seqRecalibrate s = .next (s.turned
          { s.reg.setDrv d { s.drv d with curCyl := (s.drv d).rcyl } with
            spc := .motoroff .start d :: .recalibrate (.stopping .ok) d :: below }))
      ∧ (s.reg.spc = .recalibrate (.stopping r) d :: below → below ≠ [] →
        exec .seqRecalibrate s = .next (s.turned { s.reg with spc := below, ret := r }))

/-- SEEKCYL (44 R133) at every place: no-op, frame, wait, verify. Model's choices: assumptions 2 and 5. -/
def Obligations.SeekcylMovesAndVerifies : Prop :=
  ∀ (s : State) (d : DriveId) (t : Byte) (below : List Frame) (c : Cause),
    let good := ∀ c, s.reg.ret ≠ .fail c
    let moved : Regs := s.reg.setDrv d { s.drv d with curCyl := (s.drv d).rcyl }
    (s.reg.spc = .seekcyl .start d t :: below → (s.drv d).curCyl = t → below ≠ [] →
        exec .seqSeekcyl s = .next (s.turned { s.reg with spc := below, ret := .ok }))
      ∧ (s.reg.spc = .seekcyl .start d t :: below → (s.drv d).curCyl ≠ t →
        exec .seqSeekcyl s = .next (s.turned { s.reg with
          fb := ((s.reg.fb.set 0 s.cfg.opcSeek).set 1 ((dsel s.cfg d).zeroExtend 8)).set 2 t
          spc := .sendframe .start d .three :: .seekcyl .sending d t :: below }))
      ∧ (s.reg.spc = .seekcyl .sending d t :: below → good →
        exec .seqSeekcyl s = .next (s.turned { s.reg with spc := .wait .start d :: .seekcyl .waiting d t :: below }))
      ∧ (s.reg.spc = .seekcyl .sending d t :: below ∨ s.reg.spc = .seekcyl .waiting d t :: below →
        s.reg.ret = .fail c → below ≠ [] →
        exec .seqSeekcyl s = .next (s.turned { s.reg with spc := below, ret := .fail c }))
      ∧ (s.reg.spc = .seekcyl .waiting d t :: below → good → (s.drv d).rcyl = t → below ≠ [] →
        exec .seqSeekcyl s = .next (s.turned { moved with spc := below, ret := .ok }))
      ∧ (s.reg.spc = .seekcyl .waiting d t :: below → good → (s.drv d).rcyl ≠ t → below ≠ [] →
        exec .seqSeekcyl s = .next (s.turned { moved with
          err := firstCause s.reg.err .seekVerify, spc := below, ret := .fail .seekVerify }))

/-- RESETSEQ (44 R134) at every place: no early exit, the first failure or `Ok`.
Model's choices: assumptions 2 and 5. -/
def Obligations.ResetseqRunsAllFiveSteps : Prop :=
  ∀ (s : State) (d : DriveId) (below : List Frame) (r1 : SeqOutcome) (c : Cause),
    let dor := portBase s.cfg d + s.cfg.offDor
    let ccr := portBase s.cfg d + s.cfg.offCcr
    let enable : Byte := s.cfg.dorDmaen ||| s.cfg.dorNreset
    (s.reg.spc = .resetseq .start d :: below →
        exec .seqResetseq s = .next (s.did (.ioWrite dor 0)
          { s.shadowed dor 0 with spc := .resetseq .enable d :: below }))
      ∧ (s.reg.spc = .resetseq .enable d :: below →
        exec .seqResetseq s = .next (s.did (.ioWrite dor enable)
          { s.shadowed dor enable with spc := .resetseq .selfTest d :: below }))
      ∧ (s.reg.spc = .resetseq .selfTest d :: below →
        exec .seqResetseq s = .next (s.turned { s.reg with
          spc := .wait .start d :: .resetseq .testing d :: below }))
      ∧ (s.reg.spc = .resetseq .testing d :: below →
        exec .seqResetseq s = .next (s.did (.ioWrite ccr s.cfg.rateDefault)
          { s.shadowed ccr s.cfg.rateDefault with spc := .resetseq (.rated s.reg.ret) d :: below }))
      ∧ (s.reg.spc = .resetseq (.rated r1) d :: below →
        exec .seqResetseq s = .next (s.turned { s.reg with
          spc := .recalibrate .start d :: .resetseq (.homing r1) d :: below }))
      ∧ (s.reg.spc = .resetseq (.homing (.fail c)) d :: below → below ≠ [] →
        exec .seqResetseq s = .next (s.turned { s.reg with spc := below, ret := .fail c }))
      ∧ (s.reg.spc = .resetseq (.homing r1) d :: below → (∀ c, r1 ≠ .fail c) → below ≠ [] →
        exec .seqResetseq s = .next (s.turned { s.reg with spc := below }))

-- Interrupt synchronization (42_interrupt_sync.md)

/-- `IrqFire` (42 R110): `CS` is set when `IE` is, nothing else changes. -/
def Obligations.IrqFireSetsOnlyTheSignal : Prop :=
  ∀ s : State,
    (s.reg.ie = true → exec .seqIrq s = .next (s.turned { s.reg with cs := true }))
      ∧ (s.reg.ie = false → exec .seqIrq s = .next s)

/-- WAIT (42 R112) at every place: a poll that sees 1 consumes it in the same step; polls of 0 are
counted only under a limit and the L-th raises LOST_INTERRUPT; the status is fetched and kept whole.
Model's choices: assumptions 2 and 5. -/
def Obligations.WaitConsumesTheSignalAndFetchesStatus : Prop :=
  ∀ (s : State) (d : DriveId) (below : List Frame) (c : Cause) (l : Nat),
    let good := ∀ c, s.reg.ret ≠ .fail c
    let raises : Result :=
      .next (s.turned { s.reg with err := firstCause s.reg.err c, spc := below, ret := .fail c })
    let poll (w : Nat) : Result :=
      if s.reg.cs = true then .next (s.did (.pollCS true)
        { s.reg with wcnt := w, cs := false, spc := .wait .signalled d :: below })
      else .next (s.did (.pollCS false) { s.reg with wcnt := w, spc := .wait .missed d :: below })
    (s.reg.spc = .wait .start d :: below → exec .seqWait s = poll 0)
      ∧ (s.reg.spc = .wait .missed d :: below → s.cfg.waitLimit = none → exec .seqWait s = poll s.reg.wcnt)
      ∧ (s.reg.spc = .wait .missed d :: below → s.cfg.waitLimit = some l → s.reg.wcnt + 1 ≠ l →
        exec .seqWait s = poll (s.reg.wcnt + 1))
      ∧ (s.reg.spc = .wait .missed d :: below → s.cfg.waitLimit = some l → s.reg.wcnt + 1 = l → below ≠ [] →
        exec .seqWait s = .next (s.turned { s.reg with
          wcnt := l, err := firstCause s.reg.err .lostInterrupt, spc := below, ret := .fail .lostInterrupt }))
      ∧ (s.reg.spc = .wait .signalled d :: below →
        exec .seqWait s = .next (s.turned { s.reg with
          fb := s.reg.fb.set 0 s.cfg.opcSensei
          spc := .sendframe .start d .one :: .wait .sending d :: below }))
      ∧ (s.reg.spc = .wait .sending d :: below → good →
        exec .seqWait s = .next (s.turned { s.reg with
          spc := .getframe .start d .two :: .wait .getting d :: below }))
      ∧ (s.reg.spc = .wait .sending d :: below ∨ s.reg.spc = .wait .getting d :: below →
        s.reg.ret = .fail c → below ≠ [] → exec .seqWait s = raises)
      ∧ (s.reg.spc = .wait .getting d :: below → good → below ≠ [] →
        exec .seqWait s = .next (s.turned
          { s.reg.setDrv d { s.drv d with st0 := s.reg.rf[0], rcyl := s.reg.rf[1] } with
            spc := below, ret := .ok }))

-- The byte protocol (41_byte_protocol.md)

/-- SENDBYTE (41 R100) at every place. Model's choices: assumptions 2 and 5. -/
def Obligations.SendbytePollsThenWrites : Prop :=
  ∀ (s : State) (d : DriveId) (v : Byte) (below : List Frame),
    let msr := portBase s.cfg d + s.cfg.offMsr
    let data := portBase s.cfg d + s.cfg.offData
    let ready := s.reg.msrv &&& (s.cfg.msrRqm ||| s.cfg.msrDio) = s.cfg.msrRqm
    let status (p : Nat) : Result := .next (s.didRead (.ioRead msr (answer s).1)
      { s.reg with pcnt := p, msrv := (answer s).1, spc := .sendbyte .tested d v :: below })
    (s.reg.spc = .sendbyte .start d v :: below → exec .seqSendbyte s = status 0)
      ∧ (s.reg.spc = .sendbyte .tested d v :: below → ready →
        exec .seqSendbyte s = .next (s.did (.ioWrite data v)
          { s.shadowed data v with spc := .sendbyte .moved d v :: below }))
      ∧ (s.reg.spc = .sendbyte .tested d v :: below → ¬ ready →
        exec .seqSendbyte s = .next (s.didRead (.ioRead s.cfg.pacePort (answer s).1)
          { s.reg with spc := .sendbyte .paced d v :: below }))
      ∧ (s.reg.spc = .sendbyte .paced d v :: below → s.reg.pcnt + 1 ≠ s.cfg.pollLimit →
        exec .seqSendbyte s = status (s.reg.pcnt + 1))
      ∧ (s.reg.spc = .sendbyte .paced d v :: below → s.reg.pcnt + 1 = s.cfg.pollLimit → below ≠ [] →
        exec .seqSendbyte s = .next (s.turned { s.reg with
          pcnt := s.cfg.pollLimit, err := firstCause s.reg.err .byteTimeout
          spc := below, ret := .fail .byteTimeout }))
      ∧ (s.reg.spc = .sendbyte .moved d v :: below → below ≠ [] →
        exec .seqSendbyte s = .next (s.turned { s.reg with spc := below, ret := .ok }))

/-- GETBYTE (41 R101) at every place; `Ok(v)` carries every byte value.
Model's choices: assumptions 2 and 5. -/
def Obligations.GetbytePollsThenReads : Prop :=
  ∀ (s : State) (d : DriveId) (below : List Frame),
    let msr := portBase s.cfg d + s.cfg.offMsr
    let data := portBase s.cfg d + s.cfg.offData
    let ready := s.reg.msrv &&& (s.cfg.msrRqm ||| s.cfg.msrDio) = s.cfg.msrRqm ||| s.cfg.msrDio
    let status (p : Nat) : Result := .next (s.didRead (.ioRead msr (answer s).1)
      { s.reg with pcnt := p, msrv := (answer s).1, spc := .getbyte .tested d :: below })
    (s.reg.spc = .getbyte .start d :: below → exec .seqGetbyte s = status 0)
      ∧ (s.reg.spc = .getbyte .tested d :: below → ready →
        exec .seqGetbyte s = .next (s.didRead (.ioRead data (answer s).1)
          { s.reg with rb := (answer s).1, spc := .getbyte .moved d :: below }))
      ∧ (s.reg.spc = .getbyte .tested d :: below → ¬ ready →
        exec .seqGetbyte s = .next (s.didRead (.ioRead s.cfg.pacePort (answer s).1)
          { s.reg with spc := .getbyte .paced d :: below }))
      ∧ (s.reg.spc = .getbyte .paced d :: below → s.reg.pcnt + 1 ≠ s.cfg.pollLimit →
        exec .seqGetbyte s = status (s.reg.pcnt + 1))
      ∧ (s.reg.spc = .getbyte .paced d :: below → s.reg.pcnt + 1 = s.cfg.pollLimit → below ≠ [] →
        exec .seqGetbyte s = .next (s.turned { s.reg with
          pcnt := s.cfg.pollLimit, err := firstCause s.reg.err .byteTimeout
          spc := below, ret := .fail .byteTimeout }))
      ∧ (s.reg.spc = .getbyte .moved d :: below → below ≠ [] →
        exec .seqGetbyte s = .next (s.turned { s.reg with
          spc := below, ret := .okValue (s.reg.rb.zeroExtend 32) }))

/-- SENDFRAME (41 R102) at every place: byte `FB[FI]` while `FI < n`; the first timeout ends the frame.
Model's choices: assumptions 2 and 5. -/
def Obligations.SendframeSendsEachByteOnce : Prop :=
  ∀ (s : State) (d : DriveId) (n : SendLen) (below : List Frame) (c : Cause),
    (s.reg.spc = .sendframe .start d n :: below →
        exec .seqSendframe s = .next (s.turned { s.reg with
          fi := 0, spc := .sendbyte .start d s.reg.fb[0] :: .sendframe .moving d n :: below }))
      ∧ (s.reg.spc = .sendframe .moving d n :: below → s.reg.ret = .fail c → below ≠ [] →
        exec .seqSendframe s = .next (s.turned { s.reg with spc := below, ret := .fail c }))
      ∧ (s.reg.spc = .sendframe .moving d n :: below → (∀ c, s.reg.ret ≠ .fail c) →
        ∀ i : Fin 9, i.val = s.reg.fi.toNat + 1 → i.val < n.bytes →
        exec .seqSendframe s = .next (s.turned { s.reg with
          fi := s.reg.fi + 1, spc := .sendbyte .start d s.reg.fb[i] :: .sendframe .moving d n :: below }))
      ∧ (s.reg.spc = .sendframe .moving d n :: below → (∀ c, s.reg.ret ≠ .fail c) →
        s.reg.fi.toNat + 1 = n.bytes → below ≠ [] →
        exec .seqSendframe s = .next (s.turned { s.reg with
          fi := s.reg.fi + 1, spc := below, ret := .ok }))

/-- GETFRAME (41 R103) at every place: `RF[FI] <- RB`; the first timeout ends the frame.
Model's choices: assumptions 2 and 5. -/
def Obligations.GetframeKeepsEachByte : Prop :=
  ∀ (s : State) (d : DriveId) (n : GetLen) (below : List Frame) (c : Cause),
    (s.reg.spc = .getframe .start d n :: below →
        exec .seqGetframe s = .next (s.turned { s.reg with
          fi := 0, spc := .getbyte .start d :: .getframe .moving d n :: below }))
      ∧ (s.reg.spc = .getframe .moving d n :: below → s.reg.ret = .fail c → below ≠ [] →
        exec .seqGetframe s = .next (s.turned { s.reg with spc := below, ret := .fail c }))
      ∧ (s.reg.spc = .getframe .moving d n :: below → (∀ c, s.reg.ret ≠ .fail c) →
        ∀ i : Fin 7, i.val = s.reg.fi.toNat → i.val + 1 < n.bytes →
        exec .seqGetframe s = .next (s.turned { s.reg with
          rf := s.reg.rf.set i s.reg.rb, fi := s.reg.fi + 1
          spc := .getbyte .start d :: .getframe .moving d n :: below }))
      ∧ (s.reg.spc = .getframe .moving d n :: below → (∀ c, s.reg.ret ≠ .fail c) → below ≠ [] →
        ∀ i : Fin 7, i.val = s.reg.fi.toNat → i.val + 1 = n.bytes →
        exec .seqGetframe s = .next (s.turned { s.reg with
          rf := s.reg.rf.set i s.reg.rb, fi := s.reg.fi + 1, spc := below, ret := .ok }))

-- The register interface (40_register_interface.md)

/-- The leaf sequences (40 R90 to R96): each is its one event, `DORSH` or the byte of SYS its only
write, the answer handed on in the model's `ret` (assumption 5). An answer is the next of the script, a
free byte once there is none, and drawing it changes nothing else (00 R9; the script is the model's,
assumption 4). Model's choices: assumption 2. -/
def Obligations.LeafSequencesAreOneEvent : Prop :=
  ∀ (s : State) (p : Port) (v i : Byte) (ch : BitVec 3) (a : Addr) (len : BitVec 32)
    (rest : List Byte),
    (s.env.answers = v :: rest → answer s = (v, { s with env := { s.env with answers := rest } }))
      ∧ (s.env.answers = [] → answer s =
          (Config.freeByte s.env.freeCtr, { s with env := { s.env with freeCtr := s.env.freeCtr + 1 } }))
      ∧ exec (.seqPortWr p v) s = .next (s.did (.ioWrite p v) { s.shadowed p v with ret := .ok })
      ∧ exec (.seqPortRd p) s = .next (s.didRead (.ioRead p (answer s).1)
          { s.reg with ret := .okValue ((answer s).1.zeroExtend 32) })
      ∧ exec .seqPaceRd s = .next (s.didRead (.ioRead s.cfg.pacePort (answer s).1) { s.reg with ret := .ok })
      ∧ exec (.seqDmaProg ch a len) s = .next
          { s with
            reg := { s.reg with ret := .ok }
            env := { s.env with dma := some ⟨ch, a, len⟩, trace := .dmaProgram ch a len :: s.env.trace } }
      ∧ exec (.seqCfgRd i) s = .next (s.didRead (.cfgRead i (answer s).1)
          { s.reg with ret := .okValue ((answer s).1.zeroExtend 32) })
      ∧ exec (.seqMemRd a) s = .next (s.did (.memRead a (memGet s.env.sys a.toNat))
          { s.reg with ret := .okValue ((memGet s.env.sys a.toNat).zeroExtend 32) })
      ∧ exec (.seqMemWr a v) s = .next
          { s with
            reg := { s.reg with ret := .ok }
            env := { s.env with
              sys := memSet s.env.sys a.toNat v, trace := .memWrite a v :: s.env.trace } }

-- Wire frames and register words (30_encoding.md)

/-- A command frame (30 R67 to R70) is loaded into `FB` and SENDFRAME of its length started for the
drive the block works for (assumption 9); a result frame (30 R67, R71) goes to `RF`, the two-byte one
to `st0` and `rcyl` too. -/
def Obligations.WireFramesLoadTheirBuffers : Prop :=
  ∀ (s : State) (k : BitVec 2) (t cyl head sec eot x y z : Byte),
    let d := s.currentDrive
    let kb : Byte := k.zeroExtend 8
    exec .fdcSenseInterruptStatus s = .next (s.turned { s.reg with
        fb := s.reg.fb.set 0 s.cfg.opcSensei, spc := .sendframe .start d .one :: s.reg.spc })
      ∧ exec (.fdcRecalibrate k) s = .next (s.turned { s.reg with
        fb := (s.reg.fb.set 0 s.cfg.opcRecal).set 1 kb, spc := .sendframe .start d .two :: s.reg.spc })
      ∧ exec (.fdcSeek k t) s = .next (s.turned { s.reg with
        fb := ((s.reg.fb.set 0 s.cfg.opcSeek).set 1 kb).set 2 t
        spc := .sendframe .start d .three :: s.reg.spc })
      ∧ exec (.fdcRead k cyl head sec eot) s = .next (s.turned { s.reg with
        fb := #v[s.cfg.opcRead, head.extractLsb' 0 6 ++ k, cyl, head, sec, 2, eot, 0x1B, 0xFF]
        spc := .sendframe .start d .nine :: s.reg.spc })
      ∧ exec (.fdcSisResult x y) s = .next (s.turned
        { s.reg.setDrv d { s.drv d with st0 := x, rcyl := y } with rf := (s.reg.rf.set 0 x).set 1 y })
      ∧ exec (.fdcReadResult x y z cyl head sec eot) s = .next (s.turned
        { s.reg with rf := #v[x, y, z, cyl, head, sec, eot] })

/-- Each written register word (30 R73, R74) is one port write of its value to its register: the drive
named, or the drive the block works for (assumption 9). -/
def Obligations.RegisterWordsAreOneWrite : Prop :=
  ∀ s : State,
    let dor (d : DriveId) : Port := portBase s.cfg d + s.cfg.offDor
    let ccr : Port := portBase s.cfg s.currentDrive + s.cfg.offCcr
    let enable : Byte := s.cfg.dorDmaen ||| s.cfg.dorNreset
    let stop (d : DriveId) : Byte := enable ||| (dsel s.cfg d).zeroExtend 8
    let run (d : DriveId) : Byte := stop d ||| motorMask s.cfg (dsel s.cfg d)
    let writes (a : Port) (v : Byte) : Result := .next (s.did (.ioWrite a v) (s.shadowed a v))
    exec .dorDisable s = writes (dor s.currentDrive) 0
      ∧ exec .dorEnable s = writes (dor s.currentDrive) enable
      ∧ exec .dorRun0 s = writes (dor .d0) (run .d0)
      ∧ exec .dorRun1 s = writes (dor .d1) (run .d1)
      ∧ exec .dorStop0 s = writes (dor .d0) (stop .d0)
      ∧ exec .dorStop1 s = writes (dor .d1) (stop .d1)
      ∧ exec .rateDefault s = writes ccr s.cfg.rateDefault

/-- With the default masks a status byte 10xxxxxx makes SENDBYTE write and GETBYTE pace, a status byte
11xxxxxx makes GETBYTE read and SENDBYTE pace (30 R72); a result code 00xxxxxx at step 8 is a success
(30 R75, 45 R154): MOTOROFF and then the copy. Other bits are ignored. Model's choices: assumption 9. -/
def Obligations.ReadWordsDecideTheTransfer : Prop :=
  ∀ (s : State) (d : DriveId) (v : Byte) (x : BitVec 6) (blk : BitVec 32) (buf : Addr) (below : List Frame),
    s.cfg.msrRqm = 0x80 → s.cfg.msrDio = 0x40 → s.cfg.st0IcMask = 0xC0 →
    let data := portBase s.cfg d + s.cfg.offData
    let send : Byte := (2 : BitVec 2) ++ x
    let recv : Byte := (3 : BitVec 2) ++ x
    let paces (m : Byte) (f : Frame) : Result := .next (s.didRead (.ioRead s.cfg.pacePort (answer s).1)
      { s.reg with msrv := m, spc := f :: below })
    (s.reg.spc = .sendbyte .tested d v :: below →
        exec (.msrSendReady x) s = .next (s.did (.ioWrite data v)
            { s.shadowed data v with msrv := send, spc := .sendbyte .moved d v :: below })
          ∧ exec (.msrRecvReady x) s = paces recv (.sendbyte .paced d v))
      ∧ (s.reg.spc = .getbyte .tested d :: below →
        exec (.msrRecvReady x) s = .next (s.didRead (.ioRead data (answer s).1)
            { s.reg with msrv := recv, rb := (answer s).1, spc := .getbyte .moved d :: below })
          ∧ exec (.msrSendReady x) s = paces send (.getbyte .paced d))
      ∧ (s.reg.spc = .readblock .draining d blk buf :: below → (∀ c, s.reg.ret ≠ .fail c) →
        exec (.st0Success x) s = .next (s.turned
          { s.reg.setDrv d { s.drv d with st0 := (0 : BitVec 2) ++ x } with
            spc := .motoroff .start d :: .readblock .quieting d blk buf :: below }))

/-- The drive-type byte (30 R76, 47 R190): codes 1 to 5 construct and register their drive, drive 0
first; 0 and 6 to 15 leave the slot as it is. Model's choices: assumption 9. -/
def Obligations.DriveTypeByteConstructsDrives : Prop :=
  ∀ (s : State) (x y : BitVec 4),
    let on (t : BitVec 4) : Prop := 1 ≤ t.toNat ∧ t.toNat ≤ 5
    let made (r : Drive) (t : BitVec 4) : Drive := { r with geom := t.truncate 3, lock := false, present := true }
    (¬ on x → ¬ on y → exec (.driveTypeByte x y) s = .next s)
      ∧ (on x → ¬ on y → exec (.driveTypeByte x y) s =
          .next (s.did (.register .d0 s.cfg.name0) { s.reg with drv0 := made s.reg.drv0 x }))
      ∧ (¬ on x → on y → exec (.driveTypeByte x y) s =
          .next (s.did (.register .d1 s.cfg.name1) { s.reg with drv1 := made s.reg.drv1 y }))
      ∧ (on x → on y → exec (.driveTypeByte x y) s =
          .next ((s.did (.register .d0 s.cfg.name0) s.reg).did (.register .d1 s.cfg.name1)
            { s.reg with drv0 := made s.reg.drv0 x, drv1 := made s.reg.drv1 y }))

-- The step (00 R9)

/-- A step runs the instruction that comes up: the sequence on top of `SPC`, in IDLE the command
decoded from the port, in a filled issue latch the object decoded from it. After a sequence's
instruction that made no event and did not reach IDLE the sequencer step goes on (00 R9). Where the
schedule names the sequencer, its step is taken on the state with that entry gone. A configuration
that is not well formed is refused (00 R6). Model's choices: assumptions 2, 3 and 9. -/
def Obligations.StepRunsTheNextInstruction : Prop :=
  ∀ (s : State), (configOk s.cfg = false → step s = .refused .configIllFormed) ∧ (configOk s.cfg = true →
    (∀ f below, s.alone → s.reg.spc = f :: below → f ≠ .idle →
      step s = match exec f.instr s with
        | .next t =>
          if t.env.trace.length ≠ s.env.trace.length ∨ t.reg.spc.head? = some .idle then .next t
          else sequencerStep exec 31 t
        | .fault r => .fault r
        | .refused r => .refused r)
      ∧ (∀ below c, s.alone → s.reg.spc = .idle :: below → s.env.cmd = some c →
        step s = exec (decodeHost c.ctl c.a c.b) { s with env := { s.env with cmd := none } })
      ∧ (∀ below, s.alone → s.reg.spc = .idle :: below → s.env.cmd = none → step s = exec .seqIdle s)
      ∧ (∀ rest, s.env.issue = none → s.env.sched = .sequencer :: rest →
        step s = sequencerStep exec 32 { s with env := { s.env with sched := rest } })
      ∧ (∀ sp bs i, s.env.issue = some (sp, bs) → decode sp bs = .ok i →
        step s = exec i { s with env := { s.env with issue := none } }))

/-- The agents other than the sequencer (00 R9, 42 R110, 70 R230): each step of theirs, as scheduled.
Model's choices: the schedule (assumption 3), a presented command replaces a waiting one (assumption
15), a DMA write before any `DmaProgram` is dropped, any agent may write SYS and the transfer outlives
reset (assumption 16), reset acts between two steps and leaves what lies outside the block (assumption
18). -/
def Obligations.OtherAgentsTakeTheirSteps : Prop :=
  ∀ (s : State) (rest : List Move) (i : BitVec 9) (a : Addr) (v : Byte) (c : HostCmd) (x : Transfer),
    configOk s.cfg = true → s.env.issue = none →
    let s' : State := { s with env := { s.env with sched := rest } }
    (s.env.sched = .irqFire :: rest →
        step s = .next { s' with reg := { s.reg with cs := s.reg.ie || s.reg.cs } })
      ∧ (s.env.sched = .dmaWrite i v :: rest → s.env.dma = some x →
        step s = .next { s' with env := { s'.env with
          sys := memSet s.env.sys (s.cfg.dmaBufAddr + i.zeroExtend 32).toNat v } })
      ∧ (s.env.sched = .dmaWrite i v :: rest → s.env.dma = none → step s = .next s')
      ∧ (s.env.sched = .sysWrite a v :: rest →
        step s = .next { s' with env := { s'.env with sys := memSet s.env.sys a.toNat v } })
      ∧ (s.env.sched = .present c :: rest → step s = .next { s' with env := { s'.env with cmd := some c } })
      ∧ (s.env.sched = .rst :: rest → step s = .next { s' with reg := Regs.reset })

-- Whole host commands

/-- SEEK of an open drive, SEEK of a drive that is absent or not locked (BAD_HANDLE, the sentinel), WRITE
and an illegal command each end two steps after they stand at the port of an idle block: accept, response
(46 R170, R175 to R178, R179(c)). -/
def Obligations.ShortCommandsEndInTwoSteps : Prop :=
  ∀ (s : State) (h : BitVec 1) (o : BitVec 2) (a : BitVec 64) (b : BitVec 32) (ctl : Byte),
    configOk s.cfg = true → s.alone → s.reg.spc = [.idle] → s.env.cmd = some ⟨ctl, a, b⟩ →
    let d := driveOfBit h
    let cur : BitVec 32 := b >>> 9
    let s' : State := { s with
      reg := { s.reg with ctl := ctl, a := a, b := b, err := 0 }
      env := { s.env with cmd := none } }
    (decodeHost ctl a b = .hostSeek h o a b → (s.drv d).present = true → (s.drv d).lock = true →
        runs 2 s = .next (s'.did (.respond true cur 0) (s'.reg.setDrv d { s.drv d with cursor := cur })))
      ∧ (decodeHost ctl a b = .hostSeek h o a b → ¬ ((s.drv d).present = true ∧ (s.drv d).lock = true) →
        runs 2 s = .next (s'.did (.respond false 0xFFFFFFFF 8) { s'.reg with err := 8 }))
      ∧ (decodeHost ctl a b = .hostWrite h o a b →
        runs 2 s = .next (s'.did (.respond false 0xFFFFFFFF 6) { s'.reg with err := 6 }))
      ∧ (ctl.extractLsb' 6 2 ≠ (0 : BitVec 2) ∨ 5 ≤ (ctl.extractLsb' 0 3 : BitVec 3).toNat →
        runs 2 s = .next (s'.did (.respond false 0xFFFFFFFF 11) { s'.reg with err := 11 }))

/-- CLOSE of an open drive ends after three steps: accept, the MOTOROFF write, the response with cursor
0 and the lock released (46 R173). -/
def Obligations.CloseEndsInThreeSteps : Prop :=
  ∀ (s : State) (h : BitVec 1) (o : BitVec 2) (a : BitVec 64) (b : BitVec 32) (ctl : Byte),
    configOk s.cfg = true → s.alone → s.reg.spc = [.idle] → s.env.cmd = some ⟨ctl, a, b⟩ →
    decodeHost ctl a b = .hostClose h o a b →
    (s.drv (driveOfBit h)).present = true → (s.drv (driveOfBit h)).lock = true →
    ∃ t, runs 3 s = .next t
      ∧ t.drv (driveOfBit h) = { s.drv (driveOfBit h) with cursor := 0, lock := false }
      ∧ t.env.trace = .respond true 0 0
          :: .ioWrite (portBase s.cfg (driveOfBit h) + s.cfg.offDor) (dorStopByte s.cfg (driveOfBit h))
          :: s.env.trace
      ∧ t.reg.spc = [.idle] ∧ t.reg.err = 0 ∧ t.env.sys = s.env.sys

/-- INIT ends by itself (47 R190, R192, 70 R231): from the reset registers at most four steps lead to
the idle block with `IE` set, `CS` 0 and exactly the drives whose code is 1 to 5. -/
def Obligations.InitEndsIdleWithDrivesDetected : Prop :=
  ∀ (s : State) (v : Byte) (rest : List Byte),
    configOk s.cfg = true → s.alone → s.reg = Regs.reset → s.env.answers = v :: rest →
    let t0 : BitVec 4 := v.extractLsb' 4 4
    let t1 : BitVec 4 := v.extractLsb' 0 4
    ∃ k t, k ≤ 4 ∧ runs k s = .next t ∧ t.reg.spc = [.idle] ∧ t.reg.ie = true ∧ t.reg.cs = false
      ∧ (t.reg.drv0.present = true ↔ 1 ≤ t0.toNat ∧ t0.toNat ≤ 5)
      ∧ (t.reg.drv1.present = true ↔ 1 ≤ t1.toNat ∧ t1.toNat ≤ 5)
      ∧ (t.reg.drv0.present = true → t.reg.drv0.geom.toNat = t0.toNat)
      ∧ (t.reg.drv1.present = true → t.reg.drv1.geom.toNat = t1.toNat)
      ∧ t.reg.drv0.lock = false ∧ t.reg.drv1.lock = false
      ∧ t.reg.dorshPrimary = 0 ∧ t.reg.dorshSecondary = 0

-- Reset (70_reset_and_hazards.md)

/-- The values of 10 R24 in every register of the block after reset. -/
def Obligations.ResetGivesTheStatedValues : Prop :=
  let r := State.reset.reg
  let dr : Drive := ⟨false, 0, 0, 0, false, 0, 0⟩
  r.cs = false ∧ r.ie = false ∧ r.err = 0 ∧ r.spc = [.init .start] ∧ r.ctl = 0 ∧ r.a = 0 ∧ r.b = 0
    ∧ r.xc = 0 ∧ r.xh = 0 ∧ r.xs = 0 ∧ r.tries = 0 ∧ r.pcnt = 0 ∧ r.wcnt = 0 ∧ r.msrv = 0 ∧ r.rb = 0
    ∧ r.fb = Vector.replicate 9 0 ∧ r.rf = Vector.replicate 7 0 ∧ r.fi = 0 ∧ r.ci = 0 ∧ r.cd = 0
    ∧ r.dorshPrimary = 0 ∧ r.dorshSecondary = 0 ∧ r.drv0 = dr ∧ r.drv1 = dr

/-- The reset state meets the invariant (with the model's standard configuration, assumption 1). -/
def Obligations.ResetIsGood : Prop := Good State.reset

-- Invariants

/-- From every state that meets the invariant a step gives a next state that meets it: no fault, no
refusal, the stack legal, 10 R19 and R21, `ERR` a cause code, SYS canonical.
Model's choices: assumption 7. -/
def Obligations.StepKeepsGood : Prop :=
  ∀ s : State, Good s → ∃ t, step s = .next t ∧ Good t

/-- Every step keeps SYS in its canonical form, in every state (the form is the model's, assumption 7). -/
def Obligations.StepKeepsMemoryCanonical : Prop :=
  ∀ s t : State, memOk s.env.sys = true → step s = .next t → memOk t.env.sys = true

/-- With the default register layout a motor line is on only while a sequence that will turn it off is
running, so that an idle block has every motor, and every drive, Off (45 R156, 44 R135, 10 R25). -/
def Obligations.IdleBlockHasMotorsOff : Prop :=
  ∀ s t : State, Good s → motorLayout s.cfg → MotorGuard s → step s = .next t →
    MotorGuard t ∧ (t.reg.spc = [.idle] → ∀ d, t.motorOn d = false ∧ t.driveState d = .off)

/-- The stack of a state that meets the invariant has at most 7 frames (10 R14). -/
def Obligations.StackIsAtMostSevenDeep : Prop :=
  ∀ (h : DriveId) (l : List Frame), stackOk h l = true → 1 ≤ l.length ∧ l.length ≤ 7

/-- One sequencer step of a busy block is exactly one interface event, but for INIT's last step, which
ends idle with none (00 R9, R8). Model's choices: assumption 2. -/
def Obligations.SequencerStepIsOneEvent : Prop :=
  ∀ s t : State, Good s → s.alone → s.reg.spc ≠ [.idle] → step s = .next t →
    (∃ e, t.env.trace = e :: s.env.trace)
      ∨ (t.env.trace = s.env.trace ∧ t.reg.spc = [.idle] ∧ ∃ p, s.reg.spc = [.init p])

-- What instructions may change (10_state.md)

/-- The first cause stays in `ERR` until a command is accepted (10 R13, 60 R201): no instruction but an
accept changes a nonzero `ERR`, and one that changes `ERR` from 0 writes a cause code. -/
def Obligations.FirstCauseStays : Prop :=
  ∀ (i : Instr) (s t : State), (encode i).1 ≠ .host → i ≠ .seqIdle → exec i s = .next t →
    (s.reg.err ≠ 0 → t.reg.err = s.reg.err)
      ∧ (s.reg.err = 0 → t.reg.err = 0 ∨ ∃ c : Cause, t.reg.err = c.code)

/-- `CS` is set only by IRQ with `IE` set and cleared only by WAIT; `IE` is set only by INIT and cleared by
no instruction (10 R11, R12). -/
def Obligations.SignalAndEnableHaveOneWriter : Prop :=
  ∀ (i : Instr) (s t : State), exec i s = .next t →
    (s.reg.cs = false → t.reg.cs = true → i = .seqIrq ∧ s.reg.ie = true)
      ∧ (s.reg.cs = true → t.reg.cs = false → i = .seqWait)
      ∧ (s.reg.ie = true → t.reg.ie = true)
      ∧ (s.reg.ie = false → t.reg.ie = true → i = .seqInit)

/-- `cur_cyl` of a drive changes only in SEEKCYL and RECALIBRATE for that drive, directly after a WAIT that
returned `Ok`, and then to the reported cylinder (10 R20). Model's choices: assumption 2 for the places,
assumption 5 for the register `ret` that holds WAIT's outcome. -/
def Obligations.TrackedCylinderIsReported : Prop :=
  ∀ (i : Instr) (s t : State) (d : DriveId), exec i s = .next t →
    (t.drv d).curCyl = (s.drv d).curCyl
      ∨ ((t.drv d).curCyl = (s.drv d).rcyl ∧ (∀ c, s.reg.ret ≠ .fail c) ∧ ∃ below,
          (i = .seqSeekcyl ∧ ∃ x, s.reg.spc = .seekcyl .waiting d x :: below)
            ∨ (i = .seqRecalibrate ∧ s.reg.spc = .recalibrate .waiting d :: below))

/-- The seven fields of a drive record keep their writers (10 R18, R22): `cur_cyl` is written by SEEKCYL and
RECALIBRATE, with `rcyl`; `cursor` is written by a successful READ (plus one), by CLOSE (to 0) and by
SEEK; `lock` goes to 1 only in OPEN and to 0 only in CLOSE and at
detection; `present` and `geom` change only at detection and `present` never returns to 0; `st0` and
`rcyl` change only where a status is fetched. Model's choices: detection and the status words may also be
issued by hand (assumption 9), and READ finds READBLOCK's outcome in `ret` (assumption 5). -/
def Obligations.DriveFieldsKeepTheirWriters : Prop :=
  ∀ (i : Instr) (s t : State) (d : DriveId), exec i s = .next t →
    let detects := i = .seqInit ∨ ∃ x y, i = .driveTypeByte x y
    ((t.drv d).curCyl = (s.drv d).curCyl
        ∨ ((i = .seqSeekcyl ∨ i = .seqRecalibrate) ∧ (t.drv d).curCyl = (s.drv d).rcyl))
      ∧ ((t.drv d).cursor = (s.drv d).cursor
        ∨ (i = .seqRead ∧ (∀ c, s.reg.ret ≠ .fail c) ∧ (t.drv d).cursor = (s.drv d).cursor + 1)
        ∨ (i = .seqClose ∧ (t.drv d).cursor = 0)
        ∨ (i = .seqSeek ∧ (t.drv d).cursor = s.reg.b >>> 9))
      ∧ ((s.drv d).lock = false → (t.drv d).lock = true → i = .seqOpen)
      ∧ ((s.drv d).lock = true → (t.drv d).lock = false → i = .seqClose ∨ detects)
      ∧ ((s.drv d).present = true → (t.drv d).present = true)
      ∧ ((t.drv d).present ≠ (s.drv d).present ∨ (t.drv d).geom ≠ (s.drv d).geom → detects)
      ∧ ((t.drv d).st0 ≠ (s.drv d).st0 ∨ (t.drv d).rcyl ≠ (s.drv d).rcyl →
          i = .seqWait ∨ (∃ x y, i = .fdcSisResult x y) ∨ ∃ x, i = .st0Success x)

/-- The command latch is held from the accept to the response (10 R15): no instruction but an accept
changes CTL, A or B. -/
def Obligations.CommandLatchIsHeld : Prop :=
  ∀ (i : Instr) (s t : State), (encode i).1 ≠ .host → i ≠ .seqIdle → exec i s = .next t →
    t.reg.ctl = s.reg.ctl ∧ t.reg.a = s.reg.a ∧ t.reg.b = s.reg.b

/-- No instruction but the two-drive detection makes more than one event, none changes the
configuration, and the events of the past stay (00 R9, 20 R49, R55). Model's choices: assumption 9. -/
def Obligations.InstructionMakesAtMostOneEvent : Prop :=
  ∀ (i : Instr) (s t : State), exec i s = .next t →
    t.cfg = s.cfg
      ∧ (t.env.trace = s.env.trace ∨ (∃ e, t.env.trace = e :: s.env.trace)
        ∨ ((∃ x y, i = .driveTypeByte x y) ∧ ∃ e f, t.env.trace = e :: f :: s.env.trace))

/-- `DORSH` follows the writes (10 R17, 40 R90): it changes only with a port write, to the byte written, for
each group whose output-control port was written. -/
def Obligations.ShadowFollowsTheWrites : Prop :=
  ∀ (i : Instr) (s t : State), exec i s = .next t →
    (∀ g, t.dorsh g = s.dorsh g)
      ∨ ∃ a v, t.env.trace = .ioWrite a v :: s.env.trace
        ∧ ∀ g, t.dorsh g = if a = groupBase s.cfg g + s.cfg.offDor then v else s.dorsh g

/-- SYS changes only by the one byte of a `MemWrite` event, and only in COPYBLK and MEM_WR (20 R40, R46). -/
def Obligations.MemoryChangesByOneWrittenByte : Prop :=
  ∀ (i : Instr) (s t : State), exec i s = .next t →
    t.env.sys = s.env.sys
      ∨ ∃ a v, t.env.trace = .memWrite a v :: s.env.trace ∧ (i = .seqCopyblk ∨ i = .seqMemWr a v)
        ∧ ∀ b : Addr, b ≠ a → t.sysByte b = s.sysByte b

/-- A sequence running for one drive leaves the other drive's record alone (60 R219). -/
def Obligations.OtherDriveIsUntouched : Prop :=
  ∀ (s t : State) (f : Frame) (below : List Frame) (d e : DriveId),
    s.reg.spc = f :: below → f.drive? = some d → e ≠ d → exec f.instr s = .next t →
    t.drv e = s.drv e

/-- `origin` is inert (30 R65): two SEEK commands that differ in it alone leave states that differ in the
bits 5:4 of the latch alone, and no other instruction reads or writes those bits: two states that differ
in them alone stay so, event for event. -/
def Obligations.OriginFieldIsInert : Prop :=
  ∀ (i : Instr) (s : State) (h : BitVec 1) (o p : BitVec 2) (a : BitVec 64) (b : BitVec 32),
    (s.reg.spc = [.idle] →
        exec (.hostSeek h o a b) s = mapNext (fun t => t.setOrigin o) (exec (.hostSeek h p a b) s))
      ∧ ((encode i).1 ≠ .host → i ≠ .seqIdle →
        exec i (s.setOrigin o) = mapNext (fun t => t.setOrigin o) (exec i s))

-- Memory

/-- A read after a write: the byte written, every other byte as before; two memories in
canonical form that read alike at every address are equal. Model's choices: assumption 7. -/
def Obligations.MemoryReadsBackWrites : Prop :=
  ∀ (m : List Host.Cell) (a b : Addr) (v : Byte), memOk m = true →
    memOk (memSet m a.toNat v) = true
      ∧ memGet (memSet m a.toNat v) b.toNat = (if b = a then v else memGet m b.toNat)
      ∧ ∀ n : List Host.Cell, memOk n = true → (∀ x : Addr, memGet m x.toNat = memGet n x.toNat) → m = n

-- Bounds and endless waits

/-- SENDBYTE and GETBYTE end after at most `2 * POLL_LIMIT` events whatever the environment answers (41 R104):
they have moved their byte, or stand after the last discard read with the whole budget used. -/
def Obligations.BytePrimitivesEnd : Prop :=
  ∀ (s : State) (d : DriveId) (v : Byte) (below : List Frame),
    configOk s.cfg = true → s.alone →
    (s.reg.spc = .sendbyte .start d v :: below →
        ∃ k t, k ≤ 2 * s.cfg.pollLimit ∧ runs k s = .next t
          ∧ t.env.trace.length = s.env.trace.length + k ∧ t.reg.cs = s.reg.cs
          ∧ (t.reg.spc = .sendbyte .moved d v :: below
            ∨ (t.reg.spc = .sendbyte .paced d v :: below ∧ t.reg.pcnt + 1 = s.cfg.pollLimit)))
      ∧ (s.reg.spc = .getbyte .start d :: below →
        ∃ k t, k ≤ 2 * s.cfg.pollLimit ∧ runs k s = .next t
          ∧ t.env.trace.length = s.env.trace.length + k ∧ t.reg.cs = s.reg.cs
          ∧ (t.reg.spc = .getbyte .moved d :: below
            ∨ (t.reg.spc = .getbyte .paced d :: below ∧ t.reg.pcnt + 1 = s.cfg.pollLimit)))

/-- Without an interrupt WAIT polls for ever when it has no limit, nothing else changing (42 R114); with a
limit of L it makes L polls and then raises LOST_INTERRUPT (42 R112). -/
def Obligations.WaitPollsUntilItsLimit : Prop :=
  ∀ (s : State) (d : DriveId) (below : List Frame) (l : Nat),
    configOk s.cfg = true → s.alone → s.reg.cs = false →
    let polled (n : Nat) : Env := { s.env with trace := List.replicate n (.pollCS false) ++ s.env.trace }
    (s.cfg.waitLimit = none → s.reg.spc = .wait .missed d :: below →
        ∀ n, runs n s = .next { s with env := polled n })
      ∧ (s.cfg.waitLimit = some (l + 1) → s.reg.spc = .wait .start d :: below → below ≠ [] →
        ∃ t, runs (l + 1) s = .next t ∧ t.cfg = s.cfg ∧ t.env = polled (l + 1)
          ∧ t.reg = { s.reg with wcnt := l, spc := .wait .missed d :: below }
          ∧ exec .seqWait t = .next (t.turned { t.reg with
              wcnt := l + 1, err := firstCause s.reg.err .lostInterrupt
              spc := below, ret := .fail .lostInterrupt }))

/-- COPYBLK copies the whole DMA buffer to a caller's buffer that does not overlap it (45 R157, 20 R46): after
1024 steps each of the 512 bytes reads as the byte of the DMA buffer did, every other byte as before. What
an overlapping buffer gets follows place by place from CopyblkReadsThenWrites. -/
def Obligations.CopyblkCopiesTheBlock : Prop :=
  ∀ (s : State) (buf : Addr) (below : List Frame),
    configOk s.cfg = true → s.alone → memOk s.env.sys = true → s.reg.spc = .copyblk .start buf :: below →
    (∀ i j : Nat, i < 512 → j < 512 → buf + BitVec.ofNat 32 i ≠ s.cfg.dmaBufAddr + BitVec.ofNat 32 j) →
    ∃ t, runs 1024 s = .next t
      ∧ t.reg.spc = .copyblk .stored buf :: below ∧ t.reg.ci = 511
      ∧ t.env.trace.length = s.env.trace.length + 1024
      ∧ (∀ i : Nat, i < 512 →
          t.sysByte (buf + BitVec.ofNat 32 i) = s.sysByte (s.cfg.dmaBufAddr + BitVec.ofNat 32 i))
      ∧ (∀ a : Addr, (∀ i : Nat, i < 512 → a ≠ buf + BitVec.ofNat 32 i) → t.sysByte a = s.sysByte a)
end

