-- ==== Sys2Proof/Laws/State.lean ====
section
/-! SUPPORT. What each update of the state leaves in each part of it; later proofs cite these and unfold no record update. -/

namespace Sys2Proof.Machine

-- Regs.setDrv, field by field

@[simp] theorem Regs.setDrv_cs (r : Regs) (d : DriveId) (x : Drive) : (r.setDrv d x).cs = r.cs := by
  cases d <;> rfl
@[simp] theorem Regs.setDrv_ie (r : Regs) (d : DriveId) (x : Drive) : (r.setDrv d x).ie = r.ie := by
  cases d <;> rfl
@[simp] theorem Regs.setDrv_err (r : Regs) (d : DriveId) (x : Drive) : (r.setDrv d x).err = r.err := by
  cases d <;> rfl
@[simp] theorem Regs.setDrv_spc (r : Regs) (d : DriveId) (x : Drive) : (r.setDrv d x).spc = r.spc := by
  cases d <;> rfl
@[simp] theorem Regs.setDrv_ctl (r : Regs) (d : DriveId) (x : Drive) : (r.setDrv d x).ctl = r.ctl := by
  cases d <;> rfl
@[simp] theorem Regs.setDrv_a (r : Regs) (d : DriveId) (x : Drive) : (r.setDrv d x).a = r.a := by
  cases d <;> rfl
@[simp] theorem Regs.setDrv_b (r : Regs) (d : DriveId) (x : Drive) : (r.setDrv d x).b = r.b := by
  cases d <;> rfl
@[simp] theorem Regs.setDrv_xc (r : Regs) (d : DriveId) (x : Drive) : (r.setDrv d x).xc = r.xc := by
  cases d <;> rfl
@[simp] theorem Regs.setDrv_xh (r : Regs) (d : DriveId) (x : Drive) : (r.setDrv d x).xh = r.xh := by
  cases d <;> rfl
@[simp] theorem Regs.setDrv_xs (r : Regs) (d : DriveId) (x : Drive) : (r.setDrv d x).xs = r.xs := by
  cases d <;> rfl
@[simp] theorem Regs.setDrv_tries (r : Regs) (d : DriveId) (x : Drive) : (r.setDrv d x).tries = r.tries := by
  cases d <;> rfl
@[simp] theorem Regs.setDrv_pcnt (r : Regs) (d : DriveId) (x : Drive) : (r.setDrv d x).pcnt = r.pcnt := by
  cases d <;> rfl
@[simp] theorem Regs.setDrv_wcnt (r : Regs) (d : DriveId) (x : Drive) : (r.setDrv d x).wcnt = r.wcnt := by
  cases d <;> rfl
@[simp] theorem Regs.setDrv_msrv (r : Regs) (d : DriveId) (x : Drive) : (r.setDrv d x).msrv = r.msrv := by
  cases d <;> rfl
@[simp] theorem Regs.setDrv_rb (r : Regs) (d : DriveId) (x : Drive) : (r.setDrv d x).rb = r.rb := by
  cases d <;> rfl
@[simp] theorem Regs.setDrv_fb (r : Regs) (d : DriveId) (x : Drive) : (r.setDrv d x).fb = r.fb := by
  cases d <;> rfl
@[simp] theorem Regs.setDrv_rf (r : Regs) (d : DriveId) (x : Drive) : (r.setDrv d x).rf = r.rf := by
  cases d <;> rfl
@[simp] theorem Regs.setDrv_fi (r : Regs) (d : DriveId) (x : Drive) : (r.setDrv d x).fi = r.fi := by
  cases d <;> rfl
@[simp] theorem Regs.setDrv_ci (r : Regs) (d : DriveId) (x : Drive) : (r.setDrv d x).ci = r.ci := by
  cases d <;> rfl
@[simp] theorem Regs.setDrv_cd (r : Regs) (d : DriveId) (x : Drive) : (r.setDrv d x).cd = r.cd := by
  cases d <;> rfl
@[simp] theorem Regs.setDrv_dorshPrimary (r : Regs) (d : DriveId) (x : Drive) : (r.setDrv d x).dorshPrimary = r.dorshPrimary := by
  cases d <;> rfl
@[simp] theorem Regs.setDrv_dorshSecondary (r : Regs) (d : DriveId) (x : Drive) : (r.setDrv d x).dorshSecondary = r.dorshSecondary := by
  cases d <;> rfl
@[simp] theorem Regs.setDrv_ret (r : Regs) (d : DriveId) (x : Drive) : (r.setDrv d x).ret = r.ret := by
  cases d <;> rfl
@[simp] theorem Regs.setDrv_d0_drv0 (r : Regs) (x : Drive) : (r.setDrv .d0 x).drv0 = x := rfl
@[simp] theorem Regs.setDrv_d0_drv1 (r : Regs) (x : Drive) : (r.setDrv .d0 x).drv1 = r.drv1 := rfl
@[simp] theorem Regs.setDrv_d1_drv0 (r : Regs) (x : Drive) : (r.setDrv .d1 x).drv0 = r.drv0 := rfl
@[simp] theorem Regs.setDrv_d1_drv1 (r : Regs) (x : Drive) : (r.setDrv .d1 x).drv1 = x := rfl

-- State.shadowed, field by field

@[simp] theorem State.shadowed_cs (s : State) (p : Port) (v : Byte) : (s.shadowed p v).cs = s.reg.cs := rfl
@[simp] theorem State.shadowed_ie (s : State) (p : Port) (v : Byte) : (s.shadowed p v).ie = s.reg.ie := rfl
@[simp] theorem State.shadowed_err (s : State) (p : Port) (v : Byte) : (s.shadowed p v).err = s.reg.err := rfl
@[simp] theorem State.shadowed_spc (s : State) (p : Port) (v : Byte) : (s.shadowed p v).spc = s.reg.spc := rfl
@[simp] theorem State.shadowed_ctl (s : State) (p : Port) (v : Byte) : (s.shadowed p v).ctl = s.reg.ctl := rfl
@[simp] theorem State.shadowed_a (s : State) (p : Port) (v : Byte) : (s.shadowed p v).a = s.reg.a := rfl
@[simp] theorem State.shadowed_b (s : State) (p : Port) (v : Byte) : (s.shadowed p v).b = s.reg.b := rfl
@[simp] theorem State.shadowed_xc (s : State) (p : Port) (v : Byte) : (s.shadowed p v).xc = s.reg.xc := rfl
@[simp] theorem State.shadowed_xh (s : State) (p : Port) (v : Byte) : (s.shadowed p v).xh = s.reg.xh := rfl
@[simp] theorem State.shadowed_xs (s : State) (p : Port) (v : Byte) : (s.shadowed p v).xs = s.reg.xs := rfl
@[simp] theorem State.shadowed_tries (s : State) (p : Port) (v : Byte) : (s.shadowed p v).tries = s.reg.tries := rfl
@[simp] theorem State.shadowed_pcnt (s : State) (p : Port) (v : Byte) : (s.shadowed p v).pcnt = s.reg.pcnt := rfl
@[simp] theorem State.shadowed_wcnt (s : State) (p : Port) (v : Byte) : (s.shadowed p v).wcnt = s.reg.wcnt := rfl
@[simp] theorem State.shadowed_msrv (s : State) (p : Port) (v : Byte) : (s.shadowed p v).msrv = s.reg.msrv := rfl
@[simp] theorem State.shadowed_rb (s : State) (p : Port) (v : Byte) : (s.shadowed p v).rb = s.reg.rb := rfl
@[simp] theorem State.shadowed_fb (s : State) (p : Port) (v : Byte) : (s.shadowed p v).fb = s.reg.fb := rfl
@[simp] theorem State.shadowed_rf (s : State) (p : Port) (v : Byte) : (s.shadowed p v).rf = s.reg.rf := rfl
@[simp] theorem State.shadowed_fi (s : State) (p : Port) (v : Byte) : (s.shadowed p v).fi = s.reg.fi := rfl
@[simp] theorem State.shadowed_ci (s : State) (p : Port) (v : Byte) : (s.shadowed p v).ci = s.reg.ci := rfl
@[simp] theorem State.shadowed_cd (s : State) (p : Port) (v : Byte) : (s.shadowed p v).cd = s.reg.cd := rfl
@[simp] theorem State.shadowed_drv0 (s : State) (p : Port) (v : Byte) : (s.shadowed p v).drv0 = s.reg.drv0 := rfl
@[simp] theorem State.shadowed_drv1 (s : State) (p : Port) (v : Byte) : (s.shadowed p v).drv1 = s.reg.drv1 := rfl
@[simp] theorem State.shadowed_ret (s : State) (p : Port) (v : Byte) : (s.shadowed p v).ret = s.reg.ret := rfl

-- The updates of Ops.lean: configuration, registers, surroundings

@[simp] theorem State.setDrv_cfg (s : State) (d : DriveId) (x : Drive) :
    (s.setDrv d x).cfg = s.cfg := by cases d <;> rfl
@[simp] theorem State.setDrv_reg (s : State) (d : DriveId) (x : Drive) :
    (s.setDrv d x).reg = s.reg.setDrv d x := by cases d <;> rfl
@[simp] theorem State.setDrv_env (s : State) (d : DriveId) (x : Drive) :
    (s.setDrv d x).env = s.env := by cases d <;> rfl
@[simp] theorem State.setSys_cfg (s : State) (p : Addr) (v : Byte) : (s.setSys p v).cfg = s.cfg := rfl
@[simp] theorem State.setSys_reg (s : State) (p : Addr) (v : Byte) : (s.setSys p v).reg = s.reg := rfl
@[simp] theorem State.setSys_env (s : State) (p : Addr) (v : Byte) :
    (s.setSys p v).env = { s.env with sys := memSet s.env.sys p.toNat v } := rfl
@[simp] theorem State.withSpc_cfg (s : State) (l : List Frame) : (s.withSpc l).cfg = s.cfg := rfl
@[simp] theorem State.withSpc_reg (s : State) (l : List Frame) : (s.withSpc l).reg = { s.reg with spc := l } := rfl
@[simp] theorem State.withSpc_env (s : State) (l : List Frame) : (s.withSpc l).env = s.env := rfl
@[simp] theorem State.did_cfg (s : State) (e : Event) (r : Regs) : (s.did e r).cfg = s.cfg := rfl
@[simp] theorem State.did_reg (s : State) (e : Event) (r : Regs) : (s.did e r).reg = r := rfl
@[simp] theorem State.did_env (s : State) (e : Event) (r : Regs) :
    (s.did e r).env = { s.env with trace := e :: s.env.trace } := rfl
@[simp] theorem State.turned_cfg (s : State) (r : Regs) : (s.turned r).cfg = s.cfg := rfl
@[simp] theorem State.turned_reg (s : State) (r : Regs) : (s.turned r).reg = r := rfl
@[simp] theorem State.turned_env (s : State) (r : Regs) : (s.turned r).env = s.env := rfl
@[simp] theorem State.didRead_cfg (s : State) (e : Event) (r : Regs) : (s.didRead e r).cfg = s.cfg := rfl
@[simp] theorem State.didRead_reg (s : State) (e : Event) (r : Regs) : (s.didRead e r).reg = r := rfl
@[simp] theorem State.didRead_env (s : State) (e : Event) (r : Regs) :
    (s.didRead e r).env = { (answer s).2.env with trace := e :: s.env.trace } := rfl
@[simp] theorem emit_cfg (e : Event) (s : State) : (emit e s).cfg = s.cfg := rfl
@[simp] theorem emit_reg (e : Event) (s : State) : (emit e s).reg = s.reg := rfl
@[simp] theorem emit_env (e : Event) (s : State) : (emit e s).env = { s.env with trace := e :: s.env.trace } := rfl
@[simp] theorem shadow_cfg (p : Port) (v : Byte) (s : State) : (shadow p v s).cfg = s.cfg := rfl
@[simp] theorem shadow_reg (p : Port) (v : Byte) (s : State) : (shadow p v s).reg = s.shadowed p v := rfl
@[simp] theorem shadow_env (p : Port) (v : Byte) (s : State) : (shadow p v s).env = s.env := rfl
@[simp] theorem portWrite_cfg (p : Port) (v : Byte) (s : State) : (portWrite p v s).cfg = s.cfg := rfl
@[simp] theorem portWrite_reg (p : Port) (v : Byte) (s : State) : (portWrite p v s).reg = s.shadowed p v := rfl
@[simp] theorem portWrite_env (p : Port) (v : Byte) (s : State) :
    (portWrite p v s).env = { s.env with trace := .ioWrite p v :: s.env.trace } := rfl
@[simp] theorem dmaProgram_cfg (ch : BitVec 3) (p : Addr) (len : BitVec 32) (s : State) :
    (dmaProgram ch p len s).cfg = s.cfg := rfl
@[simp] theorem dmaProgram_reg (ch : BitVec 3) (p : Addr) (len : BitVec 32) (s : State) :
    (dmaProgram ch p len s).reg = s.reg := rfl
@[simp] theorem dmaProgram_env (ch : BitVec 3) (p : Addr) (len : BitVec 32) (s : State) :
    (dmaProgram ch p len s).env = { s.env with dma := some ⟨ch, p, len⟩, trace := .dmaProgram ch p len :: s.env.trace } := rfl
@[simp] theorem memRead_value (p : Addr) (s : State) : (memRead p s).1 = memGet s.env.sys p.toNat := rfl
@[simp] theorem memRead_cfg (p : Addr) (s : State) : ((memRead p s).2).cfg = s.cfg := rfl
@[simp] theorem memRead_reg (p : Addr) (s : State) : ((memRead p s).2).reg = s.reg := rfl
@[simp] theorem memRead_env (p : Addr) (s : State) :
    ((memRead p s).2).env = { s.env with trace := .memRead p (memGet s.env.sys p.toNat) :: s.env.trace } := rfl
@[simp] theorem memWrite_cfg (p : Addr) (v : Byte) (s : State) : (memWrite p v s).cfg = s.cfg := rfl
@[simp] theorem memWrite_reg (p : Addr) (v : Byte) (s : State) : (memWrite p v s).reg = s.reg := rfl
@[simp] theorem memWrite_env (p : Addr) (v : Byte) (s : State) :
    (memWrite p v s).env = { s.env with sys := memSet s.env.sys p.toNat v, trace := .memWrite p v :: s.env.trace } := rfl
@[simp] theorem pollCS_value (s : State) : (pollCS s).1 = s.reg.cs := rfl
@[simp] theorem pollCS_cfg (s : State) : ((pollCS s).2).cfg = s.cfg := rfl
@[simp] theorem pollCS_reg (s : State) : ((pollCS s).2).reg = s.reg := rfl
@[simp] theorem pollCS_env (s : State) :
    ((pollCS s).2).env = { s.env with trace := .pollCS s.reg.cs :: s.env.trace } := rfl
@[simp] theorem handOn_cfg (o : SeqOutcome) (s : State) : (handOn o s).cfg = s.cfg := rfl
@[simp] theorem handOn_reg (o : SeqOutcome) (s : State) : (handOn o s).reg = { s.reg with ret := o } := rfl
@[simp] theorem handOn_env (o : SeqOutcome) (s : State) : (handOn o s).env = s.env := rfl
@[simp] theorem callSend_cfg (d : DriveId) (n : SendLen) (bs : List Byte) (l : List Frame) (s : State) :
    (callSend d n bs l s).cfg = s.cfg := rfl
@[simp] theorem callSend_reg (d : DriveId) (n : SendLen) (bs : List Byte) (l : List Frame) (s : State) :
    (callSend d n bs l s).reg = { s.reg with fb := loadFrame bs 0 s.reg.fb, spc := .sendframe .start d n :: l } := rfl
@[simp] theorem callSend_env (d : DriveId) (n : SendLen) (bs : List Byte) (l : List Frame) (s : State) :
    (callSend d n bs l s).env = s.env := rfl
@[simp] theorem record_cfg (c : Cause) (s : State) : (record c s).cfg = s.cfg := rfl
@[simp] theorem record_reg (c : Cause) (s : State) :
    (record c s).reg = { s.reg with err := firstCause s.reg.err c } := rfl
@[simp] theorem record_env (c : Cause) (s : State) : (record c s).env = s.env := rfl
@[simp] theorem respond_cfg (ok : Bool) (v : BitVec 32) (s : State) : (respond ok v s).cfg = s.cfg := rfl
@[simp] theorem respond_reg (ok : Bool) (v : BitVec 32) (s : State) :
    (respond ok v s).reg = { s.reg with spc := [.idle] } := rfl
@[simp] theorem respond_env (ok : Bool) (v : BitVec 32) (s : State) :
    (respond ok v s).env = { s.env with trace := .respond ok v s.reg.err :: s.env.trace } := rfl
@[simp] theorem raiseHost_cfg (c : Cause) (s : State) : (raiseHost c s).cfg = s.cfg := rfl
@[simp] theorem raiseHost_reg (c : Cause) (s : State) :
    (raiseHost c s).reg = { s.reg with err := firstCause s.reg.err c, spc := [.idle] } := rfl
@[simp] theorem raiseHost_env (c : Cause) (s : State) :
    (raiseHost c s).env = { s.env with trace := .respond false failSentinel (firstCause s.reg.err c) :: s.env.trace } := rfl
@[simp] theorem keepStatus_cfg (d : DriveId) (s : State) : (keepStatus d s).cfg = s.cfg := by cases d <;> rfl
@[simp] theorem keepStatus_reg (d : DriveId) (s : State) :
    (keepStatus d s).reg = s.reg.setDrv d { s.drv d with st0 := s.reg.rf[0], rcyl := s.reg.rf[1] } := by cases d <;> rfl
@[simp] theorem keepStatus_env (d : DriveId) (s : State) : (keepStatus d s).env = s.env := by cases d <;> rfl
@[simp] theorem confirmCylinder_cfg (d : DriveId) (s : State) :
    (confirmCylinder d s).cfg = s.cfg := by cases d <;> rfl
@[simp] theorem confirmCylinder_reg (d : DriveId) (s : State) :
    (confirmCylinder d s).reg = s.reg.setDrv d { s.drv d with curCyl := (s.drv d).rcyl } := by cases d <;> rfl
@[simp] theorem confirmCylinder_env (d : DriveId) (s : State) :
    (confirmCylinder d s).env = s.env := by cases d <;> rfl
@[simp] theorem startAttempt_cfg (d : DriveId) (b : BitVec 32) (buf : Addr) (l : List Frame) (s : State) :
    (startAttempt d b buf l s).cfg = s.cfg := rfl
@[simp] theorem startAttempt_reg (d : DriveId) (b : BitVec 32) (buf : Addr) (l : List Frame) (s : State) :
    (startAttempt d b buf l s).reg = { s.reg with tries := s.reg.tries + 1, spc := .motoron .start d :: .readblock .spinning d b buf :: l } := rfl
@[simp] theorem startAttempt_env (d : DriveId) (b : BitVec 32) (buf : Addr) (l : List Frame) (s : State) :
    (startAttempt d b buf l s).env = s.env := rfl
@[simp] theorem transferFailed_cfg (c : Cause) (d : DriveId) (b : BitVec 32) (buf : Addr) (l : List Frame) (s : State) :
    (transferFailed c d b buf l s).cfg = s.cfg := rfl
@[simp] theorem transferFailed_reg (c : Cause) (d : DriveId) (b : BitVec 32) (buf : Addr) (l : List Frame) (s : State) :
    (transferFailed c d b buf l s).reg = { s.reg with spc := .resetseq .start d :: .readblock (.resetting c) d b buf :: l } := rfl
@[simp] theorem transferFailed_env (c : Cause) (d : DriveId) (b : BitVec 32) (buf : Addr) (l : List Frame) (s : State) :
    (transferFailed c d b buf l s).env = s.env := rfl
@[simp] theorem hardReset_cfg (s : State) : (hardReset s).cfg = s.cfg := rfl
@[simp] theorem hardReset_reg (s : State) : (hardReset s).reg = .reset := rfl
@[simp] theorem hardReset_env (s : State) : (hardReset s).env = s.env := rfl

-- The environment's answer: only the script and the count of free answers move

@[simp] theorem answer_cfg (s : State) : (answer s).2.cfg = s.cfg := by
  unfold answer; split <;> rfl
@[simp] theorem answer_reg (s : State) : (answer s).2.reg = s.reg := by
  unfold answer; split <;> rfl
@[simp] theorem answer_cmd (s : State) : (answer s).2.env.cmd = s.env.cmd := by
  unfold answer; split <;> rfl
@[simp] theorem answer_sys (s : State) : (answer s).2.env.sys = s.env.sys := by
  unfold answer; split <;> rfl
@[simp] theorem answer_dma (s : State) : (answer s).2.env.dma = s.env.dma := by
  unfold answer; split <;> rfl
@[simp] theorem answer_sched (s : State) : (answer s).2.env.sched = s.env.sched := by
  unfold answer; split <;> rfl
@[simp] theorem answer_trace (s : State) : (answer s).2.env.trace = s.env.trace := by
  unfold answer; split <;> rfl
@[simp] theorem answer_issue (s : State) : (answer s).2.env.issue = s.env.issue := by
  unfold answer; split <;> rfl
@[simp] theorem portRead_value (p : Port) (s : State) : (portRead p s).1 = (answer s).1 := rfl
@[simp] theorem portRead_cfg (p : Port) (s : State) : (portRead p s).2.cfg = s.cfg := by simp [portRead]
@[simp] theorem portRead_reg (p : Port) (s : State) : (portRead p s).2.reg = s.reg := by simp [portRead]
@[simp] theorem portRead_env (p : Port) (s : State) :
    (portRead p s).2.env = { (answer s).2.env with trace := .ioRead p (answer s).1 :: s.env.trace } := by simp [portRead]
@[simp] theorem cfgRead_value (i : Byte) (s : State) : (cfgRead i s).1 = (answer s).1 := rfl
@[simp] theorem cfgRead_cfg (i : Byte) (s : State) : (cfgRead i s).2.cfg = s.cfg := by simp [cfgRead]
@[simp] theorem cfgRead_reg (i : Byte) (s : State) : (cfgRead i s).2.reg = s.reg := by simp [cfgRead]
@[simp] theorem cfgRead_env (i : Byte) (s : State) :
    (cfgRead i s).2.env = { (answer s).2.env with trace := .cfgRead i (answer s).1 :: s.env.trace } := by simp [cfgRead]
@[simp] theorem paceRead_cfg (s : State) : (paceRead s).cfg = s.cfg := by simp [paceRead]
@[simp] theorem paceRead_reg (s : State) : (paceRead s).reg = s.reg := by simp [paceRead]
@[simp] theorem paceRead_env (s : State) : (paceRead s).env =
    { (answer s).2.env with trace := .ioRead s.cfg.pacePort (answer s).1 :: s.env.trace } := by simp [paceRead]
@[simp] theorem readStatus_cfg (d : DriveId) (l : List Frame) (s : State) : (readStatus d l s).cfg = s.cfg := by
  simp [readStatus]
@[simp] theorem readStatus_reg (d : DriveId) (l : List Frame) (s : State) :
    (readStatus d l s).reg = { s.reg with msrv := (answer s).1, spc := l } := by simp [readStatus]
@[simp] theorem readStatus_env (d : DriveId) (l : List Frame) (s : State) : (readStatus d l s).env =
    { (answer s).2.env with trace := .ioRead (msrPort s.cfg d) (answer s).1 :: s.env.trace } := by
  simp [readStatus]
@[simp] theorem copyRead_cfg (buf : Addr) (l : List Frame) (s : State) : (copyRead buf l s).cfg = s.cfg := rfl
@[simp] theorem copyRead_reg (buf : Addr) (l : List Frame) (s : State) : (copyRead buf l s).reg =
    { s.reg with
      cd := memGet s.env.sys (s.cfg.dmaBufAddr + s.reg.ci.zeroExtend 32).toNat
      spc := .copyblk .loaded buf :: l } := rfl
@[simp] theorem copyRead_env (buf : Addr) (l : List Frame) (s : State) : (copyRead buf l s).env =
    (memRead (s.cfg.dmaBufAddr + s.reg.ci.zeroExtend 32) s).2.env := rfl

-- Drive records and shadows

@[simp] theorem State.drv_d0 (s : State) : s.drv .d0 = s.reg.drv0 := rfl
@[simp] theorem State.drv_d1 (s : State) : s.drv .d1 = s.reg.drv1 := rfl
@[simp] theorem State.drv_setDrv_same (s : State) (d : DriveId) (x : Drive) : (s.setDrv d x).drv d = x := by
  cases d <;> rfl
theorem State.drv_setDrv_other (s : State) (d e : DriveId) (x : Drive) (h : e ≠ d) :
    (s.setDrv d x).drv e = s.drv e := by
  cases d <;> cases e <;> first | rfl | contradiction
/-- A drive record depends on the registers alone. -/
theorem State.drv_congr (s t : State) (d : DriveId) (h0 : t.reg.drv0 = s.reg.drv0)
    (h1 : t.reg.drv1 = s.reg.drv1) : t.drv d = s.drv d := by
  cases d <;> simp [h0, h1]
/-- The shadow of a group after a port write (40 R90). -/
theorem State.dorsh_portWrite (s : State) (p : Port) (v : Byte) (g : Group) :
    (portWrite p v s).dorsh g = if p = groupBase s.cfg g + s.cfg.offDor then v else s.dorsh g := by
  cases g <;> rfl

end Sys2Proof.Machine
end

