-- ==== Sys2Proof/Laws/Memory.lean ====
section
/-! SUPPORT. The memory SYS: reads after writes, and the canonical form that every memory operation keeps. -/

namespace Sys2Proof.Machine

/-- A write reads back. -/
theorem memGet_memSet_same (m : List Host.Cell) (a : Nat) (v : Byte) (h : memOk m = true) :
    memGet (memSet m a v) a = v := by
  induction m with
  | nil => by_cases hv : v = unlisted <;> simp [memSet, memGet, hv]
  | cons c rest ih =>
    obtain ⟨k, w⟩ := c
    simp only [memOk, Bool.and_eq_true, decide_eq_true_eq, List.all_eq_true] at h
    have key : ∀ l : List Host.Cell, (∀ c ∈ l, a < c.1) → memGet l a = unlisted := by
      intro l hl
      induction l with
      | nil => rfl
      | cons c l ihl =>
        have := hl c (List.mem_cons_self ..)
        simp only [memGet, if_neg (show ¬ c.1 = a by omega)]
        exact ihl fun x hx => hl x (List.mem_cons_of_mem _ hx)
    simp only [memSet]
    split
    · split
      · rename_i h1 h2
        rw [key _ (by
          intro c hc
          rcases List.mem_cons.mp hc with rfl | hc
          · exact h1
          · exact Nat.lt_trans h1 (h.1.2 c hc)), h2]
      · simp [memGet]
    · split
      · rename_i h1 h2
        split
        · rename_i h3; rw [key _ (by subst h2; exact fun c hc => h.1.2 c hc), h3]
        · simp [memGet]
      · rename_i h1 h2
        simp only [memGet, if_neg (fun e => h2 e.symm : ¬ k = a)]
        exact ih h.2

/-- A write leaves every other byte. -/
theorem memGet_memSet_other (m : List Host.Cell) (a b : Nat) (v : Byte) (hb : b ≠ a) :
    memGet (memSet m a v) b = memGet m b := by
  induction m with
  | nil =>
    by_cases hv : v = unlisted
    · simp [memSet, hv]
    · simp [memSet, memGet, hv, Ne.symm hb]
  | cons c rest ih =>
    obtain ⟨k, w⟩ := c
    simp only [memSet]
    split
    · split
      · rfl
      · simp [memGet, Ne.symm hb]
    · split
      · rename_i h1 h2
        subst h2
        split <;> simp [memGet, Ne.symm hb]
      · simp only [memGet, ih]

/-- Every entry of a memory after a write is an entry before it or the written byte. -/
theorem mem_memSet {m : List Host.Cell} {a : Nat} {v : Byte} {c : Host.Cell} (h : c ∈ memSet m a v) :
    c ∈ m ∨ c = (a, v) := by
  induction m with
  | nil =>
    by_cases hv : v = unlisted
    · simp [memSet, hv] at h
    · simp only [memSet, if_neg hv, List.mem_singleton] at h; exact .inr h
  | cons x rest ih =>
    obtain ⟨k, w⟩ := x
    simp only [memSet] at h
    split at h
    · split at h
      · exact .inl h
      · rcases List.mem_cons.mp h with h | h
        · exact .inr h
        · exact .inl h
    · split at h
      · split at h
        · exact .inl (List.mem_cons_of_mem _ h)
        · rcases List.mem_cons.mp h with h | h
          · exact .inr h
          · exact .inl (List.mem_cons_of_mem _ h)
      · rcases List.mem_cons.mp h with h | h
        · exact .inl (h ▸ List.mem_cons_self ..)
        · rcases ih h with h | h
          · exact .inl (List.mem_cons_of_mem _ h)
          · exact .inr h

/-- A write keeps the canonical form. -/
theorem memOk_memSet (m : List Host.Cell) (a : Nat) (v : Byte) (h : memOk m = true) (ha : a < 2 ^ 32) :
    memOk (memSet m a v) = true := by
  induction m with
  | nil =>
    by_cases hv : v = unlisted
    · simp [memSet, hv, memOk]
    · simp [memSet, hv, memOk]; omega
  | cons x rest ih =>
    obtain ⟨k, w⟩ := x
    have h' := h
    simp only [memOk, Bool.and_eq_true, decide_eq_true_eq, List.all_eq_true, bne_iff_ne] at h
    obtain ⟨⟨⟨hk, hw⟩, hall⟩, hrest⟩ := h
    simp only [memSet]
    split
    · rename_i h1
      split
      · exact h'
      · rename_i hv
        simp only [memOk, Bool.and_eq_true, decide_eq_true_eq, List.all_eq_true, bne_iff_ne]
        refine ⟨⟨⟨ha, hv⟩, ?_⟩, ⟨⟨hk, hw⟩, hall⟩, hrest⟩
        intro c hc
        rcases List.mem_cons.mp hc with rfl | hc
        · exact h1
        · exact Nat.lt_trans h1 (hall c hc)
    · split
      · rename_i h1 h2
        subst h2
        split
        · exact hrest
        · rename_i hv
          simp only [memOk, Bool.and_eq_true, decide_eq_true_eq, List.all_eq_true, bne_iff_ne]
          exact ⟨⟨⟨hk, hv⟩, hall⟩, hrest⟩
      · rename_i h1 h2
        simp only [memOk, Bool.and_eq_true, decide_eq_true_eq, List.all_eq_true, bne_iff_ne]
        refine ⟨⟨⟨hk, hw⟩, ?_⟩, ih hrest⟩
        intro c hc
        rcases mem_memSet hc with hc | rfl
        · exact hall c hc
        · show k < a
          omega

/-- Memory after reset has the canonical form. -/
theorem memOk_reset : memOk State.reset.env.sys = true := rfl

/-- The two memory operations of the block keep the canonical form. -/
theorem memOk_setSys (s : State) (a : Addr) (v : Byte) (h : memOk s.env.sys = true) :
    memOk (s.setSys a v).env.sys = true := memOk_memSet _ _ _ h a.isLt

theorem memOk_memWrite (s : State) (a : Addr) (v : Byte) (h : memOk s.env.sys = true) :
    memOk (memWrite a v s).env.sys = true := memOk_memSet _ _ _ h a.isLt

theorem memOk_memRead (s : State) (a : Addr) (h : memOk s.env.sys = true) :
    memOk (memRead a s).2.env.sys = true := h

end Sys2Proof.Machine
end

