-- ==== Sys2Proof/Laws/Ops.lean ====
section
/-! SUPPORT. For each shared operation with a choice in it, one lemma that says once everything it can do. -/

namespace Sys2Proof.Machine

/-- A return goes to the caller's frame with the outcome, or faults where there is none. -/
theorem returnTo_cases (below : List Frame) (o : SeqOutcome) (s : State) :
    (below = [] ∧ returnTo below o s = .fault .noCaller)
      ∨ (below ≠ [] ∧ returnTo below o s = .next (s.turned { s.reg with spc := below, ret := o })) := by
  cases below with
  | nil => exact .inl ⟨rfl, rfl⟩
  | cons f l => exact .inr ⟨List.cons_ne_nil f l, rfl⟩

theorem returnTo_next {below : List Frame} (h : below ≠ []) (o : SeqOutcome) (s : State) :
    returnTo below o s = .next (s.turned { s.reg with spc := below, ret := o }) := by
  cases below with
  | nil => exact absurd rfl h
  | cons f l => rfl

theorem returnTo_inv {below : List Frame} {o : SeqOutcome} {s t : State} (h : returnTo below o s = .next t) :
    below ≠ [] ∧ t = s.turned { s.reg with spc := below, ret := o } := by
  rcases returnTo_cases below o s with ⟨_, e⟩ | ⟨hb, e⟩
  · rw [e] at h; cases h
  · rw [e] at h; injection h with h; exact ⟨hb, h.symm⟩

/-- Raising a failure records the first cause and returns `Fail` (60 R201). -/
theorem raiseFail_next {below : List Frame} (h : below ≠ []) (c : Cause) (s : State) :
    raiseFail c below s = .next (s.turned
      { s.reg with err := firstCause s.reg.err c, spc := below, ret := .fail c }) := by
  rw [raiseFail, returnTo_next h]; rfl

theorem raiseFail_inv {below : List Frame} {c : Cause} {s t : State} (h : raiseFail c below s = .next t) :
    below ≠ [] ∧ t = s.turned { s.reg with err := firstCause s.reg.err c, spc := below, ret := .fail c } := by
  obtain ⟨hb, e⟩ := returnTo_inv h
  exact ⟨hb, e⟩

/-- ACCEPT latches the command in an idle block and leaves it at the port of a busy one (46 R170). -/
theorem accept_cases (ctl : Byte) (a : BitVec 64) (b : BitVec 32) (f : Frame) (s : State) :
    (s.reg.spc = [.idle] ∧ accept ctl a b f s =
        s.turned { s.reg with ctl := ctl, a := a, b := b, err := 0, spc := [f] })
      ∨ (s.reg.spc ≠ [.idle] ∧ accept ctl a b f s = { s with env := { s.env with cmd := some ⟨ctl, a, b⟩ } }) := by
  by_cases h : s.reg.spc = [.idle]
  · exact .inl ⟨h, by simp [accept, State.idle, h, State.turned]⟩
  · exact .inr ⟨h, by simp [accept, State.idle, h]⟩

/-- The environment answers with the next byte of its script, or with a free byte (assumption 4). -/
theorem answer_cases (s : State) :
    (∃ v rest, s.env.answers = v :: rest ∧ answer s = (v, { s with env := { s.env with answers := rest } }))
      ∨ (s.env.answers = [] ∧ answer s =
          (Config.freeByte s.env.freeCtr, { s with env := { s.env with freeCtr := s.env.freeCtr + 1 } })) := by
  cases h : s.env.answers with
  | nil => exact .inr ⟨rfl, by simp [answer, h]⟩
  | cons v rest => exact .inl ⟨v, rest, rfl, by simp [answer, h]⟩

/-- Detection constructs and registers a drive, or leaves everything (47 R190). -/
theorem detectDrive_cases (d : DriveId) (t : BitVec 4) (s : State) :
    (detected t = true ∧ detectDrive d t s =
        emit (.register d (devName s.cfg d))
          (s.setDrv d { s.drv d with geom := t.truncate 3, lock := false, present := true }))
      ∨ (detected t = false ∧ detectDrive d t s = s) := by
  cases h : detected t
  · exact .inr ⟨rfl, by simp [detectDrive, h]⟩
  · exact .inl ⟨rfl, by simp [detectDrive, h]⟩

/-- XLATE writes `XC`, `XH`, `XS` for nonzero `H` and `S`, and has no value else (43 R120, R124). -/
theorem xlate_cases (b h n : Nat) (s : State) :
    ((h = 0 ∨ n = 0) ∧ xlate b h n s = none)
      ∨ (h ≠ 0 ∧ n ≠ 0 ∧ xlate b h n s = some (s.turned { s.reg with
          xc := BitVec.ofNat 32 (b / (n * h))
          xh := BitVec.ofNat 32 (b % (n * h) / n)
          xs := BitVec.ofNat 32 (b % n + 1) })) := by
  by_cases hz : h = 0 ∨ n = 0
  · exact .inl ⟨hz, by simp [xlate, hz]⟩
  · exact .inr ⟨fun e => hz (.inl e), fun e => hz (.inr e), by simp only [xlate, if_neg hz]; rfl⟩

/-- SENDBYTE's test writes the byte, or paces (41 R100). -/
theorem sendTest_cases (d : DriveId) (v : Byte) (below : List Frame) (s : State) :
    (sendReady s.cfg s.reg.msrv = true ∧ sendTest d v below s =
        (portWrite (dataPort s.cfg d) v s).withSpc (.sendbyte .moved d v :: below))
      ∨ (sendReady s.cfg s.reg.msrv = false ∧ sendTest d v below s =
        (paceRead s).withSpc (.sendbyte .paced d v :: below)) := by
  cases h : sendReady s.cfg s.reg.msrv
  · exact .inr ⟨rfl, by simp [sendTest, h]⟩
  · exact .inl ⟨rfl, by simp [sendTest, h]⟩

/-- GETBYTE's test reads the byte into `RB`, or paces (41 R101). -/
theorem getTest_cases (d : DriveId) (below : List Frame) (s : State) :
    (recvReady s.cfg s.reg.msrv = true ∧ getTest d below s =
        (portRead (dataPort s.cfg d) s).2.turned
          { s.reg with rb := (answer s).1, spc := .getbyte .moved d :: below })
      ∨ (recvReady s.cfg s.reg.msrv = false ∧ getTest d below s =
        (paceRead s).withSpc (.getbyte .paced d :: below)) := by
  cases h : recvReady s.cfg s.reg.msrv
  · exact .inr ⟨rfl, by simp [getTest, h]⟩
  · exact .inl ⟨rfl, by simp [getTest, h, State.turned]⟩

/-- Step 8 of READBLOCK: on to the copy, or COMMAND_FAILURE and RECALIBRATE (45 R154, R155). -/
theorem stepEight_cases (d : DriveId) (b : BitVec 32) (buf : Addr) (below : List Frame) (s : State) :
    (completionOk s.cfg (s.drv d).st0 = true ∧ stepEight d b buf below s =
        s.withSpc (.motoroff .start d :: .readblock .quieting d b buf :: below))
      ∨ (completionOk s.cfg (s.drv d).st0 = false ∧ stepEight d b buf below s = s.turned { s.reg with
        err := firstCause s.reg.err .commandFailure
        spc := .recalibrate .start d :: .readblock .rehoming d b buf :: below }) := by
  cases h : completionOk s.cfg (s.drv d).st0
  · exact .inr ⟨rfl, by simp only [stepEight, h]; rfl⟩
  · exact .inl ⟨rfl, by simp only [stepEight, h]; rfl⟩

/-- A poll of WAIT consumes the signal, or leaves it 0 (42 R112). -/
theorem waitPoll_cases (d : DriveId) (below : List Frame) (s : State) :
    (s.reg.cs = true ∧ waitPoll d below s =
        s.did (.pollCS s.reg.cs) { s.reg with cs := false, spc := .wait .signalled d :: below })
      ∨ (s.reg.cs = false ∧ waitPoll d below s =
        s.did (.pollCS s.reg.cs) { s.reg with spc := .wait .missed d :: below }) := by
  by_cases h : s.reg.cs = true
  · exact .inl ⟨h, if_pos h⟩
  · exact .inr ⟨by simpa using h, if_neg h⟩

/-- WAIT after a poll of 0: the next poll, counted under a limit, or LOST_INTERRUPT (42 R112). -/
theorem waitMissed_cases (d : DriveId) (below : List Frame) (s : State) :
    (s.cfg.waitLimit = none ∧ waitMissed d below s = .next (waitPoll d below s))
      ∨ (∃ l, s.cfg.waitLimit = some l ∧ s.reg.wcnt + 1 ≠ l ∧ waitMissed d below s =
          .next (waitPoll d below (s.turned { s.reg with wcnt := s.reg.wcnt + 1 })))
      ∨ (s.cfg.waitLimit = some (s.reg.wcnt + 1) ∧ waitMissed d below s =
          raiseFail .lostInterrupt below (s.turned { s.reg with wcnt := s.reg.wcnt + 1 })) := by
  cases h : s.cfg.waitLimit with
  | none => exact .inl ⟨rfl, by simp only [waitMissed, h]⟩
  | some l =>
    by_cases hl : s.reg.wcnt + 1 = l
    · subst hl; exact .inr (.inr ⟨rfl, by simp only [waitMissed, h]; rfl⟩)
    · exact .inr (.inl ⟨l, rfl, hl, by simp only [waitMissed, h, if_neg hl]; rfl⟩)

/-- SENDFRAME's loop: the next SENDBYTE, or `Ok` (41 R102). -/
theorem sendLoop_cases (d : DriveId) (n : SendLen) (below : List Frame) (s : State) :
    (s.reg.fi.toNat < n.bytes ∧ sendLoop d n below s = .next
        (s.withSpc (.sendbyte .start d (fbAt s s.reg.fi.toNat) :: .sendframe .moving d n :: below)))
      ∨ (n.bytes ≤ s.reg.fi.toNat ∧ sendLoop d n below s = returnTo below .ok s) := by
  by_cases h : s.reg.fi.toNat < n.bytes
  · exact .inl ⟨h, by simp [sendLoop, h]⟩
  · exact .inr ⟨Nat.le_of_not_lt h, by simp [sendLoop, h]⟩

/-- GETFRAME's loop: the next GETBYTE, or `Ok` (41 R103). -/
theorem getLoop_cases (d : DriveId) (n : GetLen) (below : List Frame) (s : State) :
    (s.reg.fi.toNat < n.bytes ∧ getLoop d n below s = .next
        (s.withSpc (.getbyte .start d :: .getframe .moving d n :: below)))
      ∨ (n.bytes ≤ s.reg.fi.toNat ∧ getLoop d n below s = returnTo below .ok s) := by
  by_cases h : s.reg.fi.toNat < n.bytes
  · exact .inl ⟨h, by simp [getLoop, h]⟩
  · exact .inr ⟨Nat.le_of_not_lt h, by simp [getLoop, h]⟩

/-- The name match of OPEN: a present drive of that name, drive 0 first (46 R172). -/
theorem openMatch_some {s : State} {name : DevName} {d : DriveId} (h : s.openMatch name = some d) :
    (s.drv d).present = true ∧ devName s.cfg d = name := by
  unfold State.openMatch at h
  split at h
  · injection h with h; subst h; assumption
  · split at h
    · injection h with h; subst h; assumption
    · cases h

theorem openMatch_none {s : State} {name : DevName} (h : s.openMatch name = none) (d : DriveId) :
    ¬ ((s.drv d).present = true ∧ devName s.cfg d = name) := by
  unfold State.openMatch at h
  split at h
  · cases h
  · split at h
    · cases h
    · cases d <;> assumption

end Sys2Proof.Machine
end

