-- ==== Sys2Proof/Tests/Slice0.lean ====
section
/-! SUPPORT. Own tests: ill-formed terms, words written out from 30_encoding.md,
      one step from the spec's worked examples, and a state that meets the hypotheses of every statement. -/

namespace Sys2Proof.Machine

-- Well-formedness: each check refuses one ill-formed term

theorem test_wf_read_head_64 : (Instr.fdcRead 0 0 64 1 9).wellFormed = false := by decide
theorem test_wf_read_sector_0 : (Instr.fdcRead 0 0 0 0 9).wellFormed = false := by decide
theorem test_wf_read_sector_over_eot : (Instr.fdcRead 0 0 0 10 9).wellFormed = false := by decide
theorem test_wf_xlate_heads_0 : (Instr.seqXlate 5 0 9).wellFormed = false := by decide
theorem test_wf_xlate_heads_65 : (Instr.seqXlate 5 65 9).wellFormed = false := by decide
theorem test_wf_xlate_sectors_0 : (Instr.seqXlate 5 2 0).wellFormed = false := by decide
theorem test_wf_inrange_cyls_0 : (Instr.seqInrange 5 0 2 9).wellFormed = false := by decide
theorem test_wf_inrange_cyls_257 : (Instr.seqInrange 5 257 2 9).wellFormed = false := by decide
theorem test_wf_inrange_heads_0 : (Instr.seqInrange 5 80 0 9).wellFormed = false := by decide
theorem test_wf_inrange_heads_65 : (Instr.seqInrange 5 80 65 9).wellFormed = false := by decide
theorem test_wf_inrange_sectors_0 : (Instr.seqInrange 5 80 2 0).wellFormed = false := by decide
theorem test_wf_read_legal : (Instr.fdcRead 3 255 63 255 255).wellFormed = true := by decide

-- Decoding: one word for every constructor, its bits written out from 30 R60 to R77

theorem test_decode_host_open :
    decode .host [0b00000000, 0x30, 0, 0, 0, 0, 0, 0, 0, 0, 0, 0, 0] = .ok (.hostOpen 0 0 0x30 0) := by decide
theorem test_decode_host_close :
    decode .host [0b00001001, 0, 0, 0, 0, 0, 0, 0, 0, 0, 0, 0, 0] = .ok (.hostClose 1 0 0 0) := by decide
theorem test_decode_host_read :
    decode .host [0b00001010, 0x00, 0x10, 0, 0, 0, 0, 0, 0, 0x00, 0x02, 0, 0]
          = .ok (.hostRead 1 0 0x1000 512) := by decide
theorem test_decode_host_write :
    decode .host [0b00000011, 0, 0, 0, 0, 0, 0, 0, 0, 0, 0, 0, 0] = .ok (.hostWrite 0 0 0 0) := by decide
theorem test_decode_host_seek :
    decode .host [0b00101100, 0, 0, 0, 0, 0, 0, 0, 0, 0x00, 0x06, 0, 0] = .ok (.hostSeek 1 2 0 1536) := by decide
theorem test_decode_illegal_op5 :
    decode .host [0b00101101, 0, 0, 0, 0, 0, 0, 0, 0, 0, 0, 0, 0] = .ok (.illegalOp5 5 0 0) := by decide
theorem test_decode_illegal_op6 :
    decode .host [0b00000110, 0, 0, 0, 0, 0, 0, 0, 0, 0, 0, 0, 0] = .ok (.illegalOp6 0 0 0) := by decide
theorem test_decode_illegal_op7 :
    decode .host [0b00111111, 0, 0, 0, 0, 0, 0, 0, 0, 0, 0, 0, 0] = .ok (.illegalOp7 7 0 0) := by decide
theorem test_decode_illegal_rsv1 :
    decode .host [0b01000101, 0, 0, 0, 0, 0, 0, 0, 0, 0, 0, 0, 0] = .ok (.illegalRsv1 5 0 0) := by decide
theorem test_decode_illegal_rsv2 :
    decode .host [0b10000000, 0, 0, 0, 0, 0, 0, 0, 0, 0, 0, 0, 0] = .ok (.illegalRsv2 0 0 0) := by decide
theorem test_decode_illegal_rsv3 :
    decode .host [0b11111111, 0, 0, 0, 0, 0, 0, 0, 0, 0, 0, 0, 0] = .ok (.illegalRsv3 63 0 0) := by decide
theorem test_decode_sense : decode .command [0x08] = .ok (.fdcSenseInterruptStatus) := by decide
theorem test_decode_recalibrate : decode .command [0x07, 0b00000001] = .ok (.fdcRecalibrate 1) := by decide
theorem test_decode_seek : decode .command [0x0F, 0b00000001, 0x27] = .ok (.fdcSeek 1 0x27) := by decide
theorem test_decode_read :
    decode .command [0xE6, 0b00000101, 27, 1, 11, 0x02, 18, 0x1B, 0xFF] = .ok (.fdcRead 1 27 1 11 18) := by decide
theorem test_decode_sis_result : decode .result [0x20, 0x01] = .ok (.fdcSisResult 0x20 0x01) := by decide
theorem test_decode_read_result :
    decode .result [0x40, 0x04, 0x00, 27, 1, 11, 2] = .ok (.fdcReadResult 0x40 0x04 0x00 27 1 11 2) := by decide
theorem test_decode_dor_disable :
    decode (.outputControl .resetseq) [0b00000000] = .ok (.dorDisable) := by decide
theorem test_decode_dor_enable :
    decode (.outputControl .resetseq) [0b00001100] = .ok (.dorEnable) := by decide
theorem test_decode_dor_run0 : decode (.outputControl .motoron) [0b00011100] = .ok (.dorRun0) := by decide
theorem test_decode_dor_run1 : decode (.outputControl .motoron) [0b00101101] = .ok (.dorRun1) := by decide
theorem test_decode_dor_stop0 : decode (.outputControl .motoroff) [0b00001100] = .ok (.dorStop0) := by decide
theorem test_decode_dor_stop1 : decode (.outputControl .motoroff) [0b00001101] = .ok (.dorStop1) := by decide
theorem test_decode_rate_default : decode .configControl [0x00] = .ok (.rateDefault) := by decide
theorem test_decode_msr_send_ready : decode .mainStatus [0b10010000] = .ok (.msrSendReady 16) := by decide
theorem test_decode_msr_recv_ready : decode .mainStatus [0b11010000] = .ok (.msrRecvReady 16) := by decide
theorem test_decode_st0_success : decode .resultCode [0b00100000] = .ok (.st0Success 32) := by decide
theorem test_decode_drive_type_byte : decode .driveTypes [0b01000011] = .ok (.driveTypeByte 4 3) := by decide
theorem test_decode_seq_idle : decode .sequence [0b00000000] = .ok (.seqIdle) := by decide
theorem test_decode_seq_init : decode .sequence [0b00000001] = .ok (.seqInit) := by decide
theorem test_decode_seq_open : decode .sequence [0b00000010] = .ok (.seqOpen) := by decide
theorem test_decode_seq_close : decode .sequence [0b00000011] = .ok (.seqClose) := by decide
theorem test_decode_seq_read : decode .sequence [0b00000100] = .ok (.seqRead) := by decide
theorem test_decode_seq_write : decode .sequence [0b00000101] = .ok (.seqWrite) := by decide
theorem test_decode_seq_seek : decode .sequence [0b00000110] = .ok (.seqSeek) := by decide
theorem test_decode_seq_readblock : decode .sequence [0b00000111] = .ok (.seqReadblock) := by decide
theorem test_decode_seq_copyblk : decode .sequence [0b00001000] = .ok (.seqCopyblk) := by decide
theorem test_decode_seq_motoron : decode .sequence [0b00001011] = .ok (.seqMotoron) := by decide
theorem test_decode_seq_motoroff : decode .sequence [0b00001100] = .ok (.seqMotoroff) := by decide
theorem test_decode_seq_recalibrate : decode .sequence [0b00001101] = .ok (.seqRecalibrate) := by decide
theorem test_decode_seq_seekcyl : decode .sequence [0b00001110] = .ok (.seqSeekcyl) := by decide
theorem test_decode_seq_resetseq : decode .sequence [0b00001111] = .ok (.seqResetseq) := by decide
theorem test_decode_seq_wait : decode .sequence [0b00010000] = .ok (.seqWait) := by decide
theorem test_decode_seq_irq : decode .sequence [0b00010001] = .ok (.seqIrq) := by decide
theorem test_decode_seq_sendframe : decode .sequence [0b00010010] = .ok (.seqSendframe) := by decide
theorem test_decode_seq_getframe : decode .sequence [0b00010011] = .ok (.seqGetframe) := by decide
theorem test_decode_seq_sendbyte : decode .sequence [0b00010100] = .ok (.seqSendbyte) := by decide
theorem test_decode_seq_getbyte : decode .sequence [0b00010101] = .ok (.seqGetbyte) := by decide
theorem test_decode_seq_pacerd : decode .sequence [0b00011000] = .ok (.seqPaceRd) := by decide
theorem test_decode_seq_illegal : decode .sequence [0b00011101] = .ok (.seqIllegal) := by decide
theorem test_decode_seq_xlate :
    decode .sequence [0b00001001, 0xE8, 0x03, 0, 0, 2, 18] = .ok (.seqXlate 1000 2 18) := by decide
theorem test_decode_seq_inrange :
    decode .sequence [0b00001010, 0x3F, 0x0B, 0, 0, 80, 0, 2, 18] = .ok (.seqInrange 2879 80 2 18) := by decide
theorem test_decode_seq_port_wr :
    decode .sequence [0b00010110, 0xF2, 0x03, 0x1C] = .ok (.seqPortWr 0x03F2 0x1C) := by decide
theorem test_decode_seq_port_rd :
    decode .sequence [0b00010111, 0xF4, 0x03] = .ok (.seqPortRd 0x03F4) := by decide
theorem test_decode_seq_dma_prog :
    decode .sequence [0b00011001, 2, 0, 0, 1, 0, 0x00, 0x02, 0, 0] = .ok (.seqDmaProg 2 0x00010000 512) := by decide
theorem test_decode_seq_cfg_rd : decode .sequence [0b00011010, 0x10] = .ok (.seqCfgRd 0x10) := by decide
theorem test_decode_seq_mem_rd :
    decode .sequence [0b00011011, 0, 0, 1, 0] = .ok (.seqMemRd 0x00010000) := by decide
theorem test_decode_seq_mem_wr :
    decode .sequence [0b00011100, 0x00, 0x10, 0, 0, 0xEB] = .ok (.seqMemWr 0x1000 0xEB) := by decide

-- Decoding refuses by name

theorem test_refuse_unused_id_30 : decode .sequence [0b00011110] = .error .unusedId := by decide
theorem test_refuse_unused_id_31 : decode .sequence [0b00011111] = .error .unusedId := by decide
theorem test_refuse_sequence_high_bits : decode .sequence [0b00100000] = .error .reservedBits := by decide
theorem test_refuse_xlate_without_operands : decode .sequence [9] = .error .wrongLength := by decide
theorem test_refuse_idle_with_operand : decode .sequence [0, 0] = .error .wrongLength := by decide
theorem test_refuse_recalibrate_bit2 : decode .command [0x07, 0b00000100] = .error .reservedBits := by decide
theorem test_refuse_seek_bit2 : decode .command [0x0F, 0b00000100, 0] = .error .reservedBits := by decide
theorem test_refuse_opcode_0x03 : decode .command [0x03] = .error .unknownOpcode := by decide
theorem test_refuse_read_size_code : decode .command [0xE6, 0, 0, 0, 1, 3, 18, 0x1B, 0xFF]
      = .error .badConstant := by decide
theorem test_refuse_read_two_heads : decode .command [0xE6, 4, 0, 0, 1, 2, 18, 0x1B, 0xFF]
      = .error .headMismatch := by decide
theorem test_refuse_dor_byte : decode (.outputControl .motoron) [0x0C] = .error .noSuchWord := by decide
theorem test_refuse_status_not_ready : decode .mainStatus [0x40] = .error .noSuchWord := by decide
theorem test_refuse_nonzero_completion : decode .resultCode [0x40] = .error .noSuchWord := by decide
theorem test_refuse_short_host_command : decode .host [0x00] = .error .wrongLength := by decide

-- Table words (assumption 10)

theorem test_table_host : decodeTableWord 8 0x2C = some (.hostSeek 1 2 0 0) := by decide
theorem test_table_sequence : decodeTableWord 5 0x14 = some .seqSendbyte := by decide
theorem test_table_recalibrate : decodeTableWord 16 0x0107 = some (.fdcRecalibrate 1) := by decide
theorem test_table_sis_result : decodeTableWord 16 0x0120 = some (.fdcSisResult 0x20 0x01) := by decide
theorem test_table_read : decodeTableWord 72 0xFF1B12020B011B05E6 = some (.fdcRead 1 27 1 11 18) := by decide
theorem test_table_unused : decodeTableWord 5 30 = none := by decide

-- Small states: an idle machine with both drives present and open (geometry index 4 is 80, 2, 18)

/-- A present and locked drive of type 4 (10 R23). -/
def openDrive : Drive := ⟨true, 4, 0, 0, true, 0, 0⟩

/-- The standard machine with both drives open, `IE` set, and a given stack. -/
def st (l : List Frame) : State :=
  State.reset.turned { Regs.reset with spc := l, ie := true, drv0 := openDrive, drv1 := openDrive }

/-- `st` after a callee has failed with a byte timeout. -/
def stFailed (l : List Frame) : State := (st l).turned { (st l).reg with ret := .fail .byteTimeout }

/-- `st` with the environment's answers given. -/
def stAnswered (l : List Frame) (bs : List Byte) : State :=
  { st l with env := { (st l).env with answers := bs } }

/-- The next state of a result. -/
def nextOf : Result → Option State
  | .next t => some t
  | _ => none

/-- The latest event of the next state. -/
def eventOf (r : Result) : Option Event := (nextOf r).bind fun t => t.env.trace.head?

/-- A successful outcome is no failure. -/
theorem ret_ok (l : List Frame) : ∀ c, (st l).reg.ret ≠ .fail c := fun _ h => nomatch h

-- One step, from the worked examples of the spec

theorem test_motoron_drive0 : eventOf (exec .seqMotoron (st [.motoron .start .d0, .recalibrate .spinning .d0]))
    = some (.ioWrite 0x03F2 0x1C) := by decide
theorem test_motoron_drive1 : eventOf (exec .seqMotoron (st [.motoron .start .d1, .recalibrate .spinning .d1]))
    = some (.ioWrite 0x0372 0x2D) := by decide
theorem test_motoroff_drive0 : eventOf (exec .seqMotoroff (st [.motoroff .start .d0, .opClose .stopping]))
    = some (.ioWrite 0x03F2 0x0C) := by decide
theorem test_motoroff_drive1 : eventOf (exec .seqMotoroff (st [.motoroff .start .d1, .opClose .stopping]))
    = some (.ioWrite 0x0372 0x0D) := by decide
theorem test_resetseq_disable : eventOf (exec .seqResetseq (st [.resetseq .start .d0, .opOpen (.resetting .d0)]))
    = some (.ioWrite 0x03F2 0x00) := by decide
theorem test_resetseq_enable : eventOf (exec .seqResetseq (st [.resetseq .enable .d0, .opOpen (.resetting .d0)]))
    = some (.ioWrite 0x03F2 0x0C) := by decide
theorem test_sendbyte_polls : eventOf (exec .seqSendbyte
    (stAnswered [.sendbyte .start .d0 7, .sendframe .moving .d0 .two] [0x80])) = some (.ioRead 0x03F4 0x80) :=
          by decide
theorem test_sendbyte_paces : eventOf (exec .seqSendbyte
    (stAnswered [.sendbyte .tested .d0 7, .sendframe .moving .d0 .two] [0xFF]))
          = some (.ioRead 0x0080 0xFF) := by decide
theorem test_getbyte_polls : eventOf (exec .seqGetbyte
    (stAnswered [.getbyte .start .d0, .getframe .moving .d0 .two] [0xC0])) = some (.ioRead 0x03F4 0xC0) := by decide
theorem test_sendframe_first_byte : (nextOf (exec .seqSendframe (st [.sendframe .start .d0 .one,
      .wait .sending .d0]))).map
    (fun t => t.reg.spc.head?) = some (some (.sendbyte .start .d0 0)) := by decide
theorem test_wait_polls_zero : eventOf (exec .seqWait (st [.wait .start .d0, .resetseq .testing .d0]))
    = some (.pollCS false) := by decide
theorem test_irq_sets_signal : (nextOf (exec .seqIrq (st [.idle]))).map (fun t => t.reg.cs) = some true := by decide
theorem test_irq_lost_without_handler : (nextOf (exec .seqIrq State.reset)).map (fun t => t.reg.cs)
      = some false := by decide
theorem test_xlate_1000 : (nextOf (exec (.seqXlate 1000 2 18) (st [.idle]))).map
    (fun t => (t.reg.xc, t.reg.xh, t.reg.xs)) = some (27, 1, 11) := by decide
theorem test_xlate_36 : (nextOf (exec (.seqXlate 36 2 18) (st [.idle]))).map
    (fun t => (t.reg.xc, t.reg.xh, t.reg.xs)) = some (1, 0, 1) := by decide
theorem test_inrange_last : (nextOf (exec (.seqInrange 2879 80 2 18) (st [.idle]))).map (fun t => t.reg.ret)
    = some (.okValue 1) := by decide
theorem test_inrange_first_out : (nextOf (exec (.seqInrange 2880 80 2 18) (st [.idle]))).map (fun t => t.reg.ret)
    = some (.okValue 0) := by decide
theorem test_dma_prog : eventOf (exec (.seqDmaProg 2 0x00010000 512) (st [.idle]))
    = some (.dmaProgram 2 0x00010000 512) := by decide
theorem test_port_wr_shadow : (nextOf (exec (.seqPortWr 0x03F2 0x1C) (st [.idle]))).map (fun t => t.reg.dorshPrimary)
    = some 0x1C := by decide
theorem test_mem_wr : (nextOf (exec (.seqMemWr 0x1000 0xEB) (st [.idle]))).map (fun t => t.sysByte 0x1000)
    = some 0xEB := by decide
theorem test_init_reads_types : eventOf (exec .seqInit (stAnswered [.init .start] [0x40]))
    = some (.cfgRead 0x10 0x40) := by decide
theorem test_init_detects_drive0 : (nextOf (exec .seqInit (State.reset.withSpc [.init (.types 0x40)]))).map
    (fun t => (t.reg.drv0.present, t.reg.drv0.geom, t.reg.drv1.present)) = some (true, 4, false) := by decide
theorem test_seek_1536 : eventOf (exec .seqSeek ((st [.opSeek]).turned { (st [.opSeek]).reg with b := 1536 }))
    = some (.respond true 3 0) := by decide
theorem test_write_unsupported : eventOf (exec .seqWrite (st [.opWrite]))
      = some (.respond false 0xFFFFFFFF 6) := by decide
theorem test_illegal : eventOf (exec .seqIllegal (st [.opIllegal])) = some (.respond false 0xFFFFFFFF 11) :=
      by decide
theorem test_close_responds : eventOf (exec .seqClose (st [.opClose .stopping])) = some (.respond true 0 0) :=
      by decide
theorem test_read_short_buffer : eventOf (exec .seqRead ((st [.opRead .start]).turned
      { (st [.opRead .start]).reg with b := 511 }))
    = some (.respond false 0xFFFFFFFF 9) := by decide
theorem test_open_no_device : eventOf (exec .seqOpen (st [.opOpen .start]))
      = some (.respond false 0xFFFFFFFF 7) := by decide
theorem test_readblock_programs_dma : eventOf (exec .seqReadblock (st [.readblock .seeking .d0 0 0x1000,
      .opRead .reading]))
    = some (.dmaProgram 2 0x00010000 512) := by decide
theorem test_copyblk_reads_first_byte : eventOf (exec .seqCopyblk (st [.copyblk .start 0x1000,
      .readblock .copying .d0 0 0x1000]))
    = some (.memRead 0x00010000 0) := by decide
theorem test_seekcyl_no_op : (nextOf (exec .seqSeekcyl (st [.seekcyl .start .d0 0,
      .readblock .seeking .d0 0 0]))).map
    (fun t => (t.reg.spc.length, t.env.trace.length)) = some (1, 0) := by decide
theorem test_read_frame_byte1 : (nextOf (exec (.fdcRead 1 27 1 11 18) (st [.idle]))).map (fun t => t.reg.fb)
    = some #v[0xE6, 0x05, 27, 1, 11, 2, 18, 0x1B, 0xFF] := by decide
theorem test_open_accepted : (nextOf (exec (.hostOpen 0 0 0x30 0) (st [.idle]))).map (fun t => (t.reg.ctl, t.reg.a))
    = some (0, 0x30) := by decide
theorem test_step_host_word : (nextOf (step (State.reset.withFetchWord 8 0x04))).map (fun t => (t.reg.spc,
      t.reg.ctl))
    = some ([.opSeek], 0x04) := by decide
theorem test_step_sequence_word : eventOf (step (State.reset.withFetchWord 5 11))
      = some (.ioWrite 0x03F2 0x1C) := by decide
theorem test_step_readblock_word : eventOf (step (State.reset.withFetchWord 5 7))
      = some (.ioWrite 0x03F2 0x1C) := by decide
theorem test_step_frame_word : (nextOf (step (State.reset.withFetchWord 16 0x0107))).map (fun t => t.reg.spc)
    = some [.sendframe .start .d0 .two, .init .start] := by decide
theorem test_reset_reads_configuration : (nextOf (step State.reset)).map (fun t => t.env.trace.length)
      = some 1 := by decide


-- A state that meets the hypotheses of each statement, clause by clause

/-- Places: a state stands at any stack. -/
theorem st_spc (l : List Frame) : (st l).reg.spc = l := rfl

theorem stFailed_spc (l : List Frame) : (stFailed l).reg.spc = l ∧ (stFailed l).reg.ret
      = .fail .byteTimeout := ⟨rfl, rfl⟩

theorem witness_DecodeEncodeRoundTrip :
    ((Instr.fdcRead 3 255 63 255 255).wellFormed = true)
      ∧ ((Instr.seqXlate 0 64 255).wellFormed = true)
      ∧ ((Instr.seqInrange 0 256 64 255).wellFormed = true) :=
  ⟨by decide, by decide, by decide⟩

theorem witness_EncodeInvertsDecode :
    (decode .sequence [0x14] = .ok .seqSendbyte) :=
  by decide

theorem witness_EveryControlByteIsDecided :
    ((0x00 : Byte).extractLsb' 6 2 = (0 : BitVec 2) ∧ (0x00 : Byte).extractLsb' 0 3 = (0 : BitVec 3))
      ∧ ((0x01 : Byte).extractLsb' 6 2 = (0 : BitVec 2) ∧ (0x01 : Byte).extractLsb' 0 3 = (1 : BitVec 3))
      ∧ ((0x0A : Byte).extractLsb' 6 2 = (0 : BitVec 2) ∧ (0x0A : Byte).extractLsb' 0 3 = (2 : BitVec 3))
      ∧ ((0x33 : Byte).extractLsb' 6 2 = (0 : BitVec 2) ∧ (0x33 : Byte).extractLsb' 0 3 = (3 : BitVec 3))
      ∧ ((0x2C : Byte).extractLsb' 6 2 = (0 : BitVec 2) ∧ (0x2C : Byte).extractLsb' 0 3 = (4 : BitVec 3))
      ∧ ((0x05 : Byte).extractLsb' 6 2 = (0 : BitVec 2) ∧ (0x05 : Byte).extractLsb' 0 3 = (5 : BitVec 3))
      ∧ ((0x3E : Byte).extractLsb' 6 2 = (0 : BitVec 2) ∧ (0x3E : Byte).extractLsb' 0 3 = (6 : BitVec 3))
      ∧ ((0x07 : Byte).extractLsb' 6 2 = (0 : BitVec 2) ∧ (0x07 : Byte).extractLsb' 0 3 = (7 : BitVec 3))
      ∧ ((0x40 : Byte).extractLsb' 6 2 = (1 : BitVec 2) ∧ (0x40 : Byte).extractLsb' 0 3 = (0 : BitVec 3))
      ∧ ((0x80 : Byte).extractLsb' 6 2 = (2 : BitVec 2) ∧ (0x80 : Byte).extractLsb' 0 3 = (0 : BitVec 3))
      ∧ ((0xFF : Byte).extractLsb' 6 2 = (3 : BitVec 2) ∧ (0xFF : Byte).extractLsb' 0 3 = (7 : BitVec 3)) :=
  ⟨by decide, by decide, by decide, by decide, by decide, by decide, by decide, by decide, by decide, by decide,
        by decide⟩

theorem witness_IdleBlockAcceptsEveryCommand :
    ((st [.idle]).reg.spc = [.idle]) :=
  rfl

theorem witness_BusyBlockLeavesCommandAtPort :
    ((st [.opWrite]).reg.spc ≠ [.idle] ∧ (encode (.hostOpen 0 0 0x30 0)).1 = .host) :=
  by decide

theorem witness_IdleRunsTheDecodedCommand :
    ((st [.idle]).reg.spc = [.idle] ∧ (st [.idle]).env.cmd = none)
      ∧ (let s := { st [.idle] with env := { (st [.idle]).env with cmd := some ⟨0x0C, 0, 1536⟩ } };
        s.reg.spc = [.idle] ∧ s.env.cmd = some ⟨0x0C, 0, 1536⟩) :=
  ⟨⟨rfl, rfl⟩, ⟨rfl, rfl⟩⟩

theorem witness_OpenMatchesLocksAndResets :
    ((st [.opOpen .start]).reg.spc = [.opOpen .start] ∧ ¬ ((st [.opOpen .start]).reg.drv0.present = true
          ∧ (st [.opOpen .start]).cfg.name0 = (st [.opOpen .start]).reg.a)
        ∧ ¬ ((st [.opOpen .start]).reg.drv1.present = true ∧ (st [.opOpen .start]).cfg.name1
              = (st [.opOpen .start]).reg.a))
      ∧ (let s := ((st [.opOpen .start]).turned { (st [.opOpen .start]).reg with a := 0x30 });
        s.reg.spc = [.opOpen .start] ∧ s.reg.drv0.present = true ∧ s.cfg.name0 = s.reg.a ∧ (s.drv .d0).lock = true)
      ∧ (let s := ((st [.opOpen .start]).turned
            { (st [.opOpen .start]).reg with a := 0x31, drv0 := .reset, drv1 := { openDrive with lock := false } });
        s.reg.spc = [.opOpen .start] ∧ ¬ (s.reg.drv0.present = true ∧ s.cfg.name0 = s.reg.a)
        ∧ s.reg.drv1.present = true ∧ s.cfg.name1 = s.reg.a ∧ (s.drv .d1).lock = false)
      ∧ ((st [.opOpen (.resetting .d1)]).reg.spc = [.opOpen (.resetting .d1)]) :=
  ⟨by decide, by decide, by decide, rfl⟩

theorem witness_CloseStopsZeroesAndUnlocks :
    (let s := ((st [.opClose .start]).turned { (st [.opClose .start]).reg with drv0 := .reset });
        s.reg.spc = [.opClose .start] ∧ s.handle = .d0 ∧ ¬ ((s.drv .d0).present = true ∧ (s.drv .d0).lock = true))
      ∧ ((st [.opClose .start]).reg.spc = [.opClose .start] ∧ (st [.opClose .start]).handle = .d0
            ∧ ((st [.opClose .start]).drv .d0).present = true
        ∧ ((st [.opClose .start]).drv .d0).lock = true)
      ∧ ((st [.opClose .stopping]).reg.spc = [.opClose .stopping]) :=
  ⟨by decide, by decide, rfl⟩

theorem witness_ReadChecksThenReadsOneBlock :
    (let s := ((st [.opRead .start]).turned { (st [.opRead .start]).reg with drv0 := .reset });
        s.reg.spc = [.opRead .start] ∧ s.handle = .d0 ∧ ¬ ((s.drv .d0).present = true ∧ (s.drv .d0).lock = true))
      ∧ (let s := ((st [.opRead .start]).turned { (st [.opRead .start]).reg with b := 511 });
        s.reg.spc = [.opRead .start] ∧ s.handle = .d0 ∧ (s.drv .d0).present = true ∧ (s.drv .d0).lock = true
              ∧ s.reg.b.toNat < 512)
      ∧ (let s := ((st [.opRead .start]).turned
            { (st [.opRead .start]).reg with b := 512, drv0 := { openDrive with cursor := 2880 } });
        s.reg.spc = [.opRead .start] ∧ s.handle = .d0 ∧ (s.drv .d0).present = true ∧ (s.drv .d0).lock = true
              ∧ 512 ≤ s.reg.b.toNat
        ∧ ¬ (s.drv .d0).cursor.toNat < (s.geomOf .d0).cyls * (s.geomOf .d0).heads * (s.geomOf .d0).sectors)
      ∧ (let s := ((st [.opRead .start]).turned
            { (st [.opRead .start]).reg with b := 512, drv0 := { openDrive with cursor := 2879 } });
        s.reg.spc = [.opRead .start] ∧ s.handle = .d0 ∧ (s.drv .d0).present = true ∧ (s.drv .d0).lock = true
              ∧ 512 ≤ s.reg.b.toNat
        ∧ (s.drv .d0).cursor.toNat < (s.geomOf .d0).cyls * (s.geomOf .d0).heads * (s.geomOf .d0).sectors)
      ∧ ((stFailed [.opRead .reading]).reg.spc = [.opRead .reading] ∧ (stFailed [.opRead .reading]).reg.ret
            = .fail .byteTimeout)
      ∧ ((st [.opRead .reading]).reg.spc = [.opRead .reading] ∧ ∀ c, (st [.opRead .reading]).reg.ret ≠ .fail c) :=
  ⟨by decide, by decide, by decide, by decide, ⟨rfl, rfl⟩, ⟨rfl, ret_ok _⟩⟩

theorem witness_WriteAndIllegalAlwaysFail :
    ((st [.opWrite]).reg.spc = [.opWrite])
      ∧ ((st [.opIllegal]).reg.spc = [.opIllegal]) :=
  ⟨rfl, rfl⟩

theorem witness_SeekSetsTheCursor :
    ((st [.opSeek]).reg.spc = [.opSeek] ∧ (st [.opSeek]).handle = .d0 ∧ ((st [.opSeek]).drv .d0).present = true
        ∧ ((st [.opSeek]).drv .d0).lock = true)
      ∧ (let s := ((st [.opSeek]).turned { (st [.opSeek]).reg with drv0 := .reset });
        s.reg.spc = [.opSeek] ∧ s.handle = .d0 ∧ ¬ ((s.drv .d0).present = true ∧ (s.drv .d0).lock = true)) :=
  ⟨by decide, by decide⟩

theorem witness_InitDetectsAndEnables :
    ((st [.init .start]).reg.spc = [.init .start])
      ∧ ((st [.init (.types 0x15)]).reg.spc = [.init (.types 0x15)] ∧ 1 ≤ ((0x15 : Byte).extractLsb' 4 4).toNat
        ∧ ((0x15 : Byte).extractLsb' 4 4).toNat ≤ 5)
      ∧ ((st [.init (.types 0x60)]).reg.spc = [.init (.types 0x60)] ∧ 5 < ((0x60 : Byte).extractLsb' 4 4).toNat)
      ∧ ((st [.init (.second 0x15)]).reg.spc = [.init (.second 0x15)] ∧ 1 ≤ ((0x15 : Byte).extractLsb' 0 4).toNat
        ∧ ((0x15 : Byte).extractLsb' 0 4).toNat ≤ 5)
      ∧ ((st [.init (.second 0x60)]).reg.spc = [.init (.second 0x60)] ∧ ((0x60 : Byte).extractLsb' 0 4).toNat = 0)
      ∧ ((st [.init .install]).reg.spc = [.init .install]) :=
  ⟨rfl, by decide, by decide, by decide, by decide, rfl⟩

theorem witness_ReadblockTranslatesSeeksAndSends :
    ((st [.readblock .start .d0 2879 0x1000, .opRead .reading]).reg.spc = [.readblock .start .d0 2879 0x1000,
          .opRead .reading]
        ∧ ((st [.readblock .start .d0 2879 0x1000, .opRead .reading]).geomOf .d0).heads ≠ 0
        ∧ ((st [.readblock .start .d0 2879 0x1000, .opRead .reading]).geomOf .d0).sectors ≠ 0)
      ∧ ((st [.readblock .spinning .d0 2879 0x1000, .opRead .reading]).reg.spc
            = [.readblock .spinning .d0 2879 0x1000, .opRead .reading])
      ∧ ((stFailed [.readblock .seeking .d0 2879 0x1000, .opRead .reading]).reg.spc
            = [.readblock .seeking .d0 2879 0x1000, .opRead .reading]
            ∧ (stFailed [.readblock .seeking .d0 2879 0x1000, .opRead .reading]).reg.ret = .fail .byteTimeout)
      ∧ ((st [.readblock (.seekAborting .byteTimeout) .d0 2879 0x1000, .opRead .reading]).reg.spc
            = [.readblock (.seekAborting .byteTimeout) .d0 2879 0x1000, .opRead .reading])
      ∧ ((st [.readblock .seeking .d0 2879 0x1000, .opRead .reading]).reg.spc
            = [.readblock .seeking .d0 2879 0x1000, .opRead .reading] ∧ ∀ c,
            (st [.readblock .seeking .d0 2879 0x1000, .opRead .reading]).reg.ret ≠ .fail c)
      ∧ ((st [.readblock .programmed .d0 2879 0x1000, .opRead .reading]).reg.spc
            = [.readblock .programmed .d0 2879 0x1000, .opRead .reading]) :=
  ⟨by decide, rfl, ⟨rfl, rfl⟩, rfl, ⟨rfl, ret_ok _⟩, rfl⟩

theorem witness_ReadblockWaitsChecksAndRetries :
    ((st [.readblock .sending .d0 2879 0x1000, .opRead .reading]).reg.spc = [.readblock .sending .d0 2879 0x1000,
          .opRead .reading] ∧ ∀ c, (st [.readblock .sending .d0 2879 0x1000, .opRead .reading]).reg.ret ≠ .fail c)
      ∧ ((stFailed [.readblock .sending .d0 2879 0x1000, .opRead .reading]).reg.spc
            = [.readblock .sending .d0 2879 0x1000, .opRead .reading]
            ∧ (stFailed [.readblock .sending .d0 2879 0x1000, .opRead .reading]).reg.ret = .fail .byteTimeout)
      ∧ ((st [.readblock .waiting .d0 2879 0x1000, .opRead .reading]).reg.spc
            = [.readblock .waiting .d0 2879 0x1000, .opRead .reading] ∧ ∀ c,
            (st [.readblock .waiting .d0 2879 0x1000, .opRead .reading]).reg.ret ≠ .fail c)
      ∧ ((stFailed [.readblock .waiting .d0 2879 0x1000, .opRead .reading]).reg.spc
            = [.readblock .waiting .d0 2879 0x1000, .opRead .reading]
            ∧ (stFailed [.readblock .waiting .d0 2879 0x1000, .opRead .reading]).reg.ret = .fail .byteTimeout)
      ∧ ((stFailed [.readblock .draining .d0 2879 0x1000, .opRead .reading]).reg.spc
            = [.readblock .draining .d0 2879 0x1000, .opRead .reading]
            ∧ (stFailed [.readblock .draining .d0 2879 0x1000, .opRead .reading]).reg.ret = .fail .byteTimeout)
      ∧ ((st [.readblock (.resetting .byteTimeout) .d0 2879 0x1000, .opRead .reading]).reg.spc
            = [.readblock (.resetting .byteTimeout) .d0 2879 0x1000, .opRead .reading])
      ∧ (let s := ((st [.readblock .draining .d0 2879 0x1000, .opRead .reading]).turned
            { (st [.readblock .draining .d0 2879 0x1000, .opRead .reading]).reg with drv0 := { openDrive with st0 := 0x20 } });
        s.reg.spc = [.readblock .draining .d0 2879 0x1000, .opRead .reading] ∧ s.reg.ret = .ok
              ∧ (s.drv .d0).st0 &&& s.cfg.st0IcMask = 0)
      ∧ (let s := ((st [.readblock .draining .d0 2879 0x1000, .opRead .reading]).turned
            { (st [.readblock .draining .d0 2879 0x1000, .opRead .reading]).reg with drv0 := { openDrive with st0 := 0x40 } });
        s.reg.spc = [.readblock .draining .d0 2879 0x1000, .opRead .reading] ∧ s.reg.ret = .ok
              ∧ (s.drv .d0).st0 &&& s.cfg.st0IcMask ≠ 0)
      ∧ ((st [.readblock .quieting .d0 2879 0x1000, .opRead .reading]).reg.spc
            = [.readblock .quieting .d0 2879 0x1000, .opRead .reading])
      ∧ ((st [.readblock .copying .d0 2879 0x1000, .opRead .reading]).reg.spc
            = [.readblock .copying .d0 2879 0x1000, .opRead .reading])
      ∧ (let s := ((st [.readblock .rehoming .d0 2879 0x1000, .opRead .reading]).turned
            { (st [.readblock .rehoming .d0 2879 0x1000, .opRead .reading]).reg with tries := 2 });
        s.reg.spc = [.readblock .rehoming .d0 2879 0x1000, .opRead .reading] ∧ s.reg.tries.toNat < 3)
      ∧ (let s := ((st [.readblock .rehoming .d0 2879 0x1000, .opRead .reading]).turned
            { (st [.readblock .rehoming .d0 2879 0x1000, .opRead .reading]).reg with tries := 3 });
        s.reg.spc = [.readblock .rehoming .d0 2879 0x1000, .opRead .reading] ∧ s.reg.tries.toNat = 3) :=
  ⟨⟨rfl, ret_ok _⟩, ⟨rfl, rfl⟩, ⟨rfl, ret_ok _⟩, ⟨rfl, rfl⟩, ⟨rfl, rfl⟩, rfl, by decide, by decide, rfl, rfl,
        by decide, by decide⟩

theorem witness_CopyblkReadsThenWrites :
    ((st [.copyblk .start 0x1000]).reg.spc = [.copyblk .start 0x1000])
      ∧ ((st [.copyblk .loaded 0x1000]).reg.spc = [.copyblk .loaded 0x1000])
      ∧ (let s := ((st [.copyblk .stored 0x1000, .readblock .copying .d0 0 0x1000]).turned
            { (st [.copyblk .stored 0x1000, .readblock .copying .d0 0 0x1000]).reg with ci := 510 });
        s.reg.spc = [.copyblk .stored 0x1000, .readblock .copying .d0 0 0x1000] ∧ s.reg.ci.toNat < 511)
      ∧ (let s := ((st [.copyblk .stored 0x1000, .readblock .copying .d0 0 0x1000]).turned
            { (st [.copyblk .stored 0x1000, .readblock .copying .d0 0 0x1000]).reg with ci := 511 });
        s.reg.spc = [.copyblk .stored 0x1000, .readblock .copying .d0 0 0x1000] ∧ s.reg.ci.toNat = 511) :=
  ⟨rfl, rfl, by decide, by decide⟩

theorem witness_TranslatorComputesAddressAndRange :
    ((1 : Byte) ≠ 0 ∧ (255 : Byte) ≠ 0) :=
  by decide

theorem witness_TranslationRoundTripsAndFits :
    ((256 : BitVec 16).toNat ≤ 256 ∧ 1 ≤ (64 : Byte).toNat ∧ (64 : Byte).toNat ≤ 64 ∧ 1 ≤ (255 : Byte).toNat)
      ∧ (∃ t, exec (.seqXlate 4177919 64 255) (st [.idle]) = .next t
            ∧ 4177919 < (256 : BitVec 16).toNat * (64 : Byte).toNat * (255 : Byte).toNat) :=
  ⟨by decide, ⟨_, rfl, by decide⟩⟩

theorem witness_MotorSequencesWriteTheirByte :
    ((st [.motoron .start .d1]).reg.spc = [.motoron .start .d1])
      ∧ ((st [.motoroff .start .d1]).reg.spc = [.motoroff .start .d1])
      ∧ ((st [.motoron .done .d1, .recalibrate .spinning .d1]).reg.spc = [.motoron .done .d1,
            .recalibrate .spinning .d1])
      ∧ ((st [.motoroff .done .d1, .opClose .stopping]).reg.spc = [.motoroff .done .d1, .opClose .stopping])
      ∧ (motorLayout Config.standard) :=
  ⟨rfl, rfl, rfl, rfl, by unfold motorLayout; decide⟩

theorem witness_RecalibrateRehomesAndStops :
    ((st [.recalibrate .start .d1, .resetseq (.homing .ok) .d1]).reg.spc = [.recalibrate .start .d1,
          .resetseq (.homing .ok) .d1])
      ∧ ((st [.recalibrate .spinning .d1, .resetseq (.homing .ok) .d1]).reg.spc = [.recalibrate .spinning .d1,
            .resetseq (.homing .ok) .d1])
      ∧ ((st [.recalibrate .sending .d1, .resetseq (.homing .ok) .d1]).reg.spc = [.recalibrate .sending .d1,
            .resetseq (.homing .ok) .d1] ∧ ∀ c, (st [.recalibrate .sending .d1,
            .resetseq (.homing .ok) .d1]).reg.ret ≠ .fail c)
      ∧ ((stFailed [.recalibrate .sending .d1, .resetseq (.homing .ok) .d1]).reg.spc
            = [.recalibrate .sending .d1, .resetseq (.homing .ok) .d1] ∧ (stFailed [.recalibrate .sending .d1,
            .resetseq (.homing .ok) .d1]).reg.ret = .fail .byteTimeout)
      ∧ ((stFailed [.recalibrate .waiting .d1, .resetseq (.homing .ok) .d1]).reg.spc
            = [.recalibrate .waiting .d1, .resetseq (.homing .ok) .d1] ∧ (stFailed [.recalibrate .waiting .d1,
            .resetseq (.homing .ok) .d1]).reg.ret = .fail .byteTimeout)
      ∧ ((st [.recalibrate .waiting .d1, .resetseq (.homing .ok) .d1]).reg.spc = [.recalibrate .waiting .d1,
            .resetseq (.homing .ok) .d1] ∧ ∀ c, (st [.recalibrate .waiting .d1,
            .resetseq (.homing .ok) .d1]).reg.ret ≠ .fail c)
      ∧ ((st [.recalibrate (.stopping .ok) .d1, .resetseq (.homing .ok) .d1]).reg.spc
            = [.recalibrate (.stopping .ok) .d1, .resetseq (.homing .ok) .d1]) :=
  ⟨rfl, rfl, ⟨rfl, ret_ok _⟩, ⟨rfl, rfl⟩, ⟨rfl, rfl⟩, ⟨rfl, ret_ok _⟩, rfl⟩

theorem witness_SeekcylMovesAndVerifies :
    ((st [.seekcyl .start .d1 0, .readblock .seeking .d1 0 0]).reg.spc = [.seekcyl .start .d1 0,
          .readblock .seeking .d1 0 0]
        ∧ ((st [.seekcyl .start .d1 0, .readblock .seeking .d1 0 0]).drv .d1).curCyl = 0)
      ∧ ((st [.seekcyl .start .d1 0x27, .readblock .seeking .d1 0 0]).reg.spc = [.seekcyl .start .d1 0x27,
            .readblock .seeking .d1 0 0]
        ∧ ((st [.seekcyl .start .d1 0x27, .readblock .seeking .d1 0 0]).drv .d1).curCyl ≠ 0x27)
      ∧ ((st [.seekcyl .sending .d1 0x27, .readblock .seeking .d1 0 0]).reg.spc = [.seekcyl .sending .d1 0x27,
            .readblock .seeking .d1 0 0] ∧ ∀ c, (st [.seekcyl .sending .d1 0x27,
            .readblock .seeking .d1 0 0]).reg.ret ≠ .fail c)
      ∧ ((stFailed [.seekcyl .sending .d1 0x27, .readblock .seeking .d1 0 0]).reg.spc
            = [.seekcyl .sending .d1 0x27, .readblock .seeking .d1 0 0] ∧ (stFailed [.seekcyl .sending .d1 0x27,
            .readblock .seeking .d1 0 0]).reg.ret = .fail .byteTimeout)
      ∧ ((stFailed [.seekcyl .waiting .d1 0x27, .readblock .seeking .d1 0 0]).reg.spc
            = [.seekcyl .waiting .d1 0x27, .readblock .seeking .d1 0 0] ∧ (stFailed [.seekcyl .waiting .d1 0x27,
            .readblock .seeking .d1 0 0]).reg.ret = .fail .byteTimeout)
      ∧ ((st [.seekcyl .waiting .d1 0, .readblock .seeking .d1 0 0]).reg.spc = [.seekcyl .waiting .d1 0,
            .readblock .seeking .d1 0 0]
        ∧ ((st [.seekcyl .waiting .d1 0, .readblock .seeking .d1 0 0]).drv .d1).rcyl = 0)
      ∧ ((st [.seekcyl .waiting .d1 0x27, .readblock .seeking .d1 0 0]).reg.spc = [.seekcyl .waiting .d1 0x27,
            .readblock .seeking .d1 0 0]
        ∧ ((st [.seekcyl .waiting .d1 0x27, .readblock .seeking .d1 0 0]).drv .d1).rcyl ≠ 0x27)
      ∧ (∀ c, (st [.seekcyl .waiting .d1 0x27, .readblock .seeking .d1 0 0]).reg.ret ≠ .fail c) :=
  ⟨by decide, by decide, ⟨rfl, ret_ok _⟩, ⟨rfl, rfl⟩, ⟨rfl, rfl⟩, by decide, by decide, ret_ok _⟩

theorem witness_ResetseqRunsAllFiveSteps :
    ((st [.resetseq .start .d0, .opOpen (.resetting .d0)]).reg.spc = [.resetseq .start .d0,
          .opOpen (.resetting .d0)])
      ∧ ((st [.resetseq .enable .d0, .opOpen (.resetting .d0)]).reg.spc = [.resetseq .enable .d0,
            .opOpen (.resetting .d0)])
      ∧ ((st [.resetseq .selfTest .d0, .opOpen (.resetting .d0)]).reg.spc = [.resetseq .selfTest .d0,
            .opOpen (.resetting .d0)])
      ∧ ((st [.resetseq .testing .d0, .opOpen (.resetting .d0)]).reg.spc = [.resetseq .testing .d0,
            .opOpen (.resetting .d0)])
      ∧ ((st [.resetseq (.rated .ok) .d0, .opOpen (.resetting .d0)]).reg.spc = [.resetseq (.rated .ok) .d0,
            .opOpen (.resetting .d0)])
      ∧ ((st [.resetseq (.homing (.fail .byteTimeout)) .d0, .opOpen (.resetting .d0)]).reg.spc
            = [.resetseq (.homing (.fail .byteTimeout)) .d0, .opOpen (.resetting .d0)])
      ∧ ((st [.resetseq (.homing .ok) .d0, .opOpen (.resetting .d0)]).reg.spc = [.resetseq (.homing .ok) .d0,
            .opOpen (.resetting .d0)])
      ∧ (∀ c, SeqOutcome.ok ≠ .fail c) :=
  ⟨rfl, rfl, rfl, rfl, rfl, rfl, rfl, fun _ h => nomatch h⟩

theorem witness_IrqFireSetsOnlyTheSignal :
    ((st [.idle]).reg.ie = true)
      ∧ (State.reset.reg.ie = false) :=
  ⟨rfl, rfl⟩

theorem witness_WaitConsumesTheSignalAndFetchesStatus :
    ((st [.wait .start .d0, .resetseq .testing .d0]).reg.spc = [.wait .start .d0, .resetseq .testing .d0])
      ∧ ((st [.wait .missed .d0, .resetseq .testing .d0]).reg.spc = [.wait .missed .d0, .resetseq .testing .d0]
        ∧ (st [.wait .missed .d0, .resetseq .testing .d0]).cfg.waitLimit = none)
      ∧ (let s := { ((st [.wait .missed .d0, .resetseq .testing .d0]).turned
            { (st [.wait .missed .d0, .resetseq .testing .d0]).reg with wcnt := 1 }) with cfg := { Config.standard with waitLimit := some 3 } };
        s.reg.spc = [.wait .missed .d0, .resetseq .testing .d0] ∧ s.cfg.waitLimit = some 3 ∧ s.reg.wcnt + 1 ≠ 3)
      ∧ (let s := { ((st [.wait .missed .d0, .resetseq .testing .d0]).turned
            { (st [.wait .missed .d0, .resetseq .testing .d0]).reg with wcnt := 2 }) with cfg := { Config.standard with waitLimit := some 3 } };
        s.reg.spc = [.wait .missed .d0, .resetseq .testing .d0] ∧ s.cfg.waitLimit = some 3 ∧ s.reg.wcnt + 1 = 3)
      ∧ ((st [.wait .signalled .d0, .resetseq .testing .d0]).reg.spc = [.wait .signalled .d0,
            .resetseq .testing .d0])
      ∧ ((st [.wait .sending .d0, .resetseq .testing .d0]).reg.spc = [.wait .sending .d0,
            .resetseq .testing .d0] ∧ ∀ c, (st [.wait .sending .d0, .resetseq .testing .d0]).reg.ret ≠ .fail c)
      ∧ ((stFailed [.wait .sending .d0, .resetseq .testing .d0]).reg.spc = [.wait .sending .d0,
            .resetseq .testing .d0] ∧ (stFailed [.wait .sending .d0, .resetseq .testing .d0]).reg.ret
            = .fail .byteTimeout)
      ∧ ((stFailed [.wait .getting .d0, .resetseq .testing .d0]).reg.spc = [.wait .getting .d0,
            .resetseq .testing .d0] ∧ (stFailed [.wait .getting .d0, .resetseq .testing .d0]).reg.ret
            = .fail .byteTimeout)
      ∧ ((st [.wait .getting .d0, .resetseq .testing .d0]).reg.spc = [.wait .getting .d0,
            .resetseq .testing .d0] ∧ ∀ c, (st [.wait .getting .d0, .resetseq .testing .d0]).reg.ret ≠ .fail c) :=
  ⟨rfl, ⟨rfl, rfl⟩, by decide, by decide, rfl, ⟨rfl, ret_ok _⟩, ⟨rfl, rfl⟩, ⟨rfl, rfl⟩, ⟨rfl, ret_ok _⟩⟩

theorem witness_SendbytePollsThenWrites :
    ((st [.sendbyte .start .d0 7, .sendframe .moving .d0 .two]).reg.spc = [.sendbyte .start .d0 7,
          .sendframe .moving .d0 .two])
      ∧ (let s := ((st [.sendbyte .tested .d0 7, .sendframe .moving .d0 .two]).turned
            { (st [.sendbyte .tested .d0 7, .sendframe .moving .d0 .two]).reg with msrv := 0xBF });
        s.reg.spc = [.sendbyte .tested .d0 7, .sendframe .moving .d0 .two]
              ∧ s.reg.msrv &&& (s.cfg.msrRqm ||| s.cfg.msrDio) = s.cfg.msrRqm)
      ∧ (let s := ((st [.sendbyte .tested .d0 7, .sendframe .moving .d0 .two]).turned
            { (st [.sendbyte .tested .d0 7, .sendframe .moving .d0 .two]).reg with msrv := 0xC0 });
        s.reg.spc = [.sendbyte .tested .d0 7, .sendframe .moving .d0 .two]
              ∧ ¬ s.reg.msrv &&& (s.cfg.msrRqm ||| s.cfg.msrDio) = s.cfg.msrRqm)
      ∧ (let s := ((st [.sendbyte .paced .d0 7, .sendframe .moving .d0 .two]).turned
            { (st [.sendbyte .paced .d0 7, .sendframe .moving .d0 .two]).reg with pcnt := 126 });
        s.reg.spc = [.sendbyte .paced .d0 7, .sendframe .moving .d0 .two] ∧ s.reg.pcnt + 1 ≠ s.cfg.pollLimit)
      ∧ (let s := ((st [.sendbyte .paced .d0 7, .sendframe .moving .d0 .two]).turned
            { (st [.sendbyte .paced .d0 7, .sendframe .moving .d0 .two]).reg with pcnt := 127 });
        s.reg.spc = [.sendbyte .paced .d0 7, .sendframe .moving .d0 .two] ∧ s.reg.pcnt + 1 = s.cfg.pollLimit)
      ∧ ((st [.sendbyte .moved .d0 7, .sendframe .moving .d0 .two]).reg.spc = [.sendbyte .moved .d0 7,
            .sendframe .moving .d0 .two]) :=
  ⟨rfl, by decide, by decide, by decide, by decide, rfl⟩

theorem witness_GetbytePollsThenReads :
    ((st [.getbyte .start .d0, .getframe .moving .d0 .two]).reg.spc = [.getbyte .start .d0,
          .getframe .moving .d0 .two])
      ∧ (let s := ((st [.getbyte .tested .d0, .getframe .moving .d0 .two]).turned
            { (st [.getbyte .tested .d0, .getframe .moving .d0 .two]).reg with msrv := 0xFF });
        s.reg.spc = [.getbyte .tested .d0, .getframe .moving .d0 .two]
              ∧ s.reg.msrv &&& (s.cfg.msrRqm ||| s.cfg.msrDio) = s.cfg.msrRqm ||| s.cfg.msrDio)
      ∧ (let s := ((st [.getbyte .tested .d0, .getframe .moving .d0 .two]).turned
            { (st [.getbyte .tested .d0, .getframe .moving .d0 .two]).reg with msrv := 0x80 });
        s.reg.spc = [.getbyte .tested .d0, .getframe .moving .d0 .two]
              ∧ ¬ s.reg.msrv &&& (s.cfg.msrRqm ||| s.cfg.msrDio) = s.cfg.msrRqm ||| s.cfg.msrDio)
      ∧ (let s := ((st [.getbyte .paced .d0, .getframe .moving .d0 .two]).turned
            { (st [.getbyte .paced .d0, .getframe .moving .d0 .two]).reg with pcnt := 126 });
        s.reg.spc = [.getbyte .paced .d0, .getframe .moving .d0 .two] ∧ s.reg.pcnt + 1 ≠ s.cfg.pollLimit)
      ∧ (let s := ((st [.getbyte .paced .d0, .getframe .moving .d0 .two]).turned
            { (st [.getbyte .paced .d0, .getframe .moving .d0 .two]).reg with pcnt := 127 });
        s.reg.spc = [.getbyte .paced .d0, .getframe .moving .d0 .two] ∧ s.reg.pcnt + 1 = s.cfg.pollLimit)
      ∧ ((st [.getbyte .moved .d0, .getframe .moving .d0 .two]).reg.spc = [.getbyte .moved .d0,
            .getframe .moving .d0 .two]) :=
  ⟨rfl, by decide, by decide, by decide, by decide, rfl⟩

theorem witness_SendframeSendsEachByteOnce :
    ((st [.sendframe .start .d0 .nine, .readblock .sending .d0 0 0]).reg.spc = [.sendframe .start .d0 .nine,
          .readblock .sending .d0 0 0])
      ∧ ((stFailed [.sendframe .moving .d0 .nine, .readblock .sending .d0 0 0]).reg.spc
            = [.sendframe .moving .d0 .nine, .readblock .sending .d0 0 0]
            ∧ (stFailed [.sendframe .moving .d0 .nine, .readblock .sending .d0 0 0]).reg.ret = .fail .byteTimeout)
      ∧ (let s := ((st [.sendframe .moving .d0 .nine, .readblock .sending .d0 0 0]).turned
            { (st [.sendframe .moving .d0 .nine, .readblock .sending .d0 0 0]).reg with fi := 7 });
        s.reg.spc = [.sendframe .moving .d0 .nine, .readblock .sending .d0 0 0] ∧ s.reg.ret = .ok
              ∧ (8 : Fin 9).val = s.reg.fi.toNat + 1 ∧ (8 : Fin 9).val < SendLen.nine.bytes)
      ∧ (let s := ((st [.sendframe .moving .d0 .nine, .readblock .sending .d0 0 0]).turned
            { (st [.sendframe .moving .d0 .nine, .readblock .sending .d0 0 0]).reg with fi := 8 });
        s.reg.spc = [.sendframe .moving .d0 .nine, .readblock .sending .d0 0 0] ∧ s.reg.ret = .ok
              ∧ s.reg.fi.toNat + 1 = SendLen.nine.bytes) :=
  ⟨rfl, ⟨rfl, rfl⟩, by decide, by decide⟩

theorem witness_GetframeKeepsEachByte :
    ((st [.getframe .start .d0 .seven, .readblock .draining .d0 0 0]).reg.spc = [.getframe .start .d0 .seven,
          .readblock .draining .d0 0 0])
      ∧ ((stFailed [.getframe .moving .d0 .seven, .readblock .draining .d0 0 0]).reg.spc
            = [.getframe .moving .d0 .seven, .readblock .draining .d0 0 0]
            ∧ (stFailed [.getframe .moving .d0 .seven, .readblock .draining .d0 0 0]).reg.ret = .fail .byteTimeout)
      ∧ (let s := ((st [.getframe .moving .d0 .seven, .readblock .draining .d0 0 0]).turned
            { (st [.getframe .moving .d0 .seven, .readblock .draining .d0 0 0]).reg with fi := 5 });
        s.reg.spc = [.getframe .moving .d0 .seven, .readblock .draining .d0 0 0] ∧ s.reg.ret = .ok
              ∧ (5 : Fin 7).val = s.reg.fi.toNat ∧ (5 : Fin 7).val + 1 < GetLen.seven.bytes)
      ∧ (let s := ((st [.getframe .moving .d0 .seven, .readblock .draining .d0 0 0]).turned
            { (st [.getframe .moving .d0 .seven, .readblock .draining .d0 0 0]).reg with fi := 6 });
        s.reg.spc = [.getframe .moving .d0 .seven, .readblock .draining .d0 0 0] ∧ s.reg.ret = .ok
              ∧ (6 : Fin 7).val = s.reg.fi.toNat ∧ (6 : Fin 7).val + 1 = GetLen.seven.bytes) :=
  ⟨rfl, ⟨rfl, rfl⟩, by decide, by decide⟩

theorem witness_LeafSequencesAreOneEvent :
    ((stAnswered [.idle] [0xEB]).env.answers = [0xEB])
      ∧ ((st [.idle]).env.answers = []) :=
  ⟨rfl, rfl⟩

theorem witness_ReadWordsDecideTheTransfer :
    (Config.standard.msrRqm = 0x80 ∧ Config.standard.msrDio = 0x40 ∧ Config.standard.st0IcMask = 0xC0)
      ∧ ((st [.sendbyte .tested .d0 7, .sendframe .moving .d0 .two]).reg.spc = [.sendbyte .tested .d0 7,
            .sendframe .moving .d0 .two])
      ∧ ((st [.getbyte .tested .d0, .getframe .moving .d0 .two]).reg.spc = [.getbyte .tested .d0,
            .getframe .moving .d0 .two])
      ∧ ((st [.readblock .draining .d0 2879 0x1000, .opRead .reading]).reg.spc
            = [.readblock .draining .d0 2879 0x1000, .opRead .reading] ∧ ∀ c,
            (st [.readblock .draining .d0 2879 0x1000, .opRead .reading]).reg.ret ≠ .fail c) :=
  ⟨by decide, rfl, rfl, ⟨rfl, ret_ok _⟩⟩

theorem witness_DriveTypeByteConstructsDrives :
    (¬ (1 ≤ (0 : BitVec 4).toNat ∧ (0 : BitVec 4).toNat ≤ 5) ∧ ¬ (1 ≤ (6 : BitVec 4).toNat
          ∧ (6 : BitVec 4).toNat ≤ 5))
      ∧ ((1 ≤ (1 : BitVec 4).toNat ∧ (1 : BitVec 4).toNat ≤ 5) ∧ (1 ≤ (5 : BitVec 4).toNat
            ∧ (5 : BitVec 4).toNat ≤ 5)) :=
  ⟨by decide, by decide⟩

/-- Nothing but the sequencer moves in `st`. -/
theorem st_alone (l : List Frame) : (st l).alone := ⟨rfl, rfl⟩

theorem st_configOk (l : List Frame) : configOk (st l).cfg = true := by
  show configOk Config.standard = true; decide

theorem witness_StepRunsTheNextInstruction :
    (configOk { Config.standard with pollLimit := 0 } = false)
      ∧ (configOk (st [.opSeek]).cfg = true ∧ (st [.opSeek]).alone ∧ (st [.opSeek]).reg.spc = [.opSeek]
            ∧ Frame.opSeek ≠ .idle)
      ∧ ((st [.idle]).alone ∧ (st [.idle]).reg.spc = [.idle] ∧ (st [.idle]).env.cmd = none)
      ∧ (let s := { st [.idle] with env := { (st [.idle]).env with cmd := some ⟨0x45, 0, 0⟩ } };
        s.alone ∧ s.reg.spc = [.idle] ∧ s.env.cmd = some ⟨0x45, 0, 0⟩)
      ∧ (let s := { st [.opSeek] with env := { (st [.opSeek]).env with sched := [.sequencer, .irqFire] } };
        configOk s.cfg = true ∧ s.env.issue = none ∧ s.env.sched = [.sequencer, .irqFire])
      ∧ (let s := { st [.idle] with env := { (st [.idle]).env with issue := some (.sequence, [17]) } };
        s.env.issue = some (.sequence, [17]) ∧ decode .sequence [17] = .ok .seqIrq) :=
  ⟨by decide, ⟨st_configOk _, st_alone _, rfl, by decide⟩, ⟨st_alone _, rfl, rfl⟩, ⟨⟨rfl, rfl⟩, rfl, rfl⟩,
    ⟨st_configOk [.opSeek], rfl, rfl⟩, ⟨rfl, by decide⟩⟩

theorem witness_OtherAgentsTakeTheirSteps :
    (let s := { st [.idle] with env := { (st [.idle]).env with sched := [.irqFire], dma := none } };
        configOk s.cfg = true ∧ s.env.issue = none ∧ s.env.sched = [.irqFire] ∧ s.env.dma = none)
      ∧ (let s := { st [.idle] with env := { (st [.idle]).env with sched := [.dmaWrite 511 0xEB], dma := some ⟨2, 0x00010000, 512⟩ } };
        configOk s.cfg = true ∧ s.env.issue = none ∧ s.env.sched = [.dmaWrite 511 0xEB] ∧ s.env.dma = some ⟨2,
              0x00010000, 512⟩)
      ∧ (let s := { st [.idle] with env := { (st [.idle]).env with sched := [.dmaWrite 0 0xEB], dma := none } };
        configOk s.cfg = true ∧ s.env.issue = none ∧ s.env.sched = [.dmaWrite 0 0xEB] ∧ s.env.dma = none)
      ∧ (let s := { st [.idle] with env := { (st [.idle]).env with sched := [.sysWrite 0xFFFFFFFF 1], dma := none } };
        configOk s.cfg = true ∧ s.env.issue = none ∧ s.env.sched = [.sysWrite 0xFFFFFFFF 1] ∧ s.env.dma = none)
      ∧ (let s := { st [.idle] with env := { (st [.idle]).env with sched := [.present ⟨0, 0x30, 0⟩], dma := none } };
        configOk s.cfg = true ∧ s.env.issue = none ∧ s.env.sched = [.present ⟨0, 0x30, 0⟩] ∧ s.env.dma = none)
      ∧ (let s := { st [.idle] with env := { (st [.idle]).env with sched := [.rst], dma := none } };
        configOk s.cfg = true ∧ s.env.issue = none ∧ s.env.sched = [.rst] ∧ s.env.dma = none) :=
  ⟨⟨by decide, rfl, rfl, rfl⟩, ⟨by decide, rfl, rfl, rfl⟩, ⟨by decide, rfl, rfl, rfl⟩, ⟨by decide, rfl, rfl,
        rfl⟩, ⟨by decide, rfl, rfl, rfl⟩, ⟨by decide, rfl, rfl, rfl⟩⟩

/-- An idle machine with a command on the port. -/
def stCommand (ctl : Byte) (a : BitVec 64) (b : BitVec 32) : State :=
  { st [.idle] with env := { (st [.idle]).env with cmd := some ⟨ctl, a, b⟩ } }

theorem stCommand_ready (ctl : Byte) (a : BitVec 64) (b : BitVec 32) :
    configOk (stCommand ctl a b).cfg = true ∧ (stCommand ctl a b).alone
      ∧ (stCommand ctl a b).reg.spc = [.idle] ∧ (stCommand ctl a b).env.cmd = some ⟨ctl, a, b⟩ :=
  ⟨st_configOk [.idle], ⟨rfl, rfl⟩, rfl, rfl⟩

/-- The same with drive 1 closed, or absent. -/
def stCommandShut (x : Drive) (ctl : Byte) (b : BitVec 32) : State :=
  (stCommand ctl 0 b).turned { (stCommand ctl 0 b).reg with drv1 := x }

theorem witness_ShortCommandsEndInTwoSteps :
    (decodeHost 0x0C 0 1536 = .hostSeek 1 0 0 1536 ∧ ((stCommand 0x0C 0 1536).drv .d1).present = true
        ∧ ((stCommand 0x0C 0 1536).drv .d1).lock = true)
      ∧ (∀ x ∈ [{ openDrive with lock := false }, { openDrive with present := false }],
        decodeHost 0x0C 0 1536 = .hostSeek 1 0 0 1536
          ∧ configOk (stCommandShut x 0x0C 1536).cfg = true ∧ (stCommandShut x 0x0C 1536).alone
          ∧ (stCommandShut x 0x0C 1536).reg.spc = [.idle]
          ∧ (stCommandShut x 0x0C 1536).env.cmd = some ⟨0x0C, 0, 1536⟩
          ∧ ¬ (((stCommandShut x 0x0C 1536).drv .d1).present = true
            ∧ ((stCommandShut x 0x0C 1536).drv .d1).lock = true))
      ∧ (decodeHost 0x03 0 0 = .hostWrite 0 0 0 0)
      ∧ ((0x40 : Byte).extractLsb' 6 2 ≠ (0 : BitVec 2) ∧ 5 ≤ ((0x05 : Byte).extractLsb' 0 3 : BitVec 3).toNat) :=
  ⟨by decide, fun _ hx => ⟨by decide, st_configOk [.idle], ⟨rfl, rfl⟩, rfl, rfl,
      by rcases List.mem_pair.mp hx with rfl | rfl <;> decide⟩,
    by decide, by decide⟩

theorem witness_CloseEndsInThreeSteps :
    (decodeHost 0x09 0 0 = .hostClose 1 0 0 0 ∧ ((stCommand 0x09 0 0).drv .d1).present = true
        ∧ ((stCommand 0x09 0 0).drv .d1).lock = true) :=
  by decide

theorem witness_InitEndsIdleWithDrivesDetected :
    (let s := { State.reset with env := { Env.reset with answers := [0x51] } };
        configOk s.cfg = true ∧ s.alone ∧ s.reg = Regs.reset ∧ s.env.answers = [0x51]) :=
  ⟨by decide, ⟨rfl, rfl⟩, rfl, rfl⟩

/-- The invariant holds in a busy state: a drive is being recalibrated on the way of an OPEN. -/
theorem good_busy : Good (st [.motoron .start .d0, .recalibrate .spinning .d0, .resetseq (.homing .ok) .d0,
      .opOpen (.resetting .d0)]) :=
  ⟨by decide, by decide, by decide, by decide, by decide, by decide, by decide, by decide⟩

theorem witness_StepKeepsGood : Good (st [.idle]) :=
  ⟨by decide, by decide, by decide, by decide, by decide, by decide, by decide, by decide⟩

theorem witness_StepKeepsMemoryCanonical : memOk (st [.idle]).env.sys = true ∧ ∃ t, step (st [.idle]) = .next t :=
  ⟨rfl, _, rfl⟩

/-- The last step of a CLOSE, its motor still to be stopped: the guard holds with a motor on. -/
def stClosing : State :=
  (st [.motoroff .start .d0, .opClose .stopping]).turned
    { (st [.motoroff .start .d0, .opClose .stopping]).reg with dorshPrimary := 0x1C }

theorem witness_IdleBlockHasMotorsOff :
    (Good stClosing ∧ motorLayout stClosing.cfg) ∧ MotorGuard stClosing ∧ stClosing.motorOn .d0 = true
      ∧ ∃ t, step stClosing = .next t := by
  refine ⟨⟨⟨by decide, by decide, by decide, by decide, by decide, by decide, by decide, by decide⟩, ?_⟩, ?_,
        by decide, _, rfl⟩
  · unfold motorLayout; decide
  · intro g k h
    refine ⟨.motoroff .start .d0, by decide, .d0, rfl, ?_⟩
    cases g
    · rfl
    · exfalso; revert h; revert k; decide

theorem witness_StackIsAtMostSevenDeep :
    stackOk .d0 [.getbyte .start .d0, .getframe .moving .d0 .two, .wait .getting .d0, .recalibrate .waiting .d0,
      .resetseq (.homing .ok) .d0, .readblock (.resetting .byteTimeout) .d0 0 0, .opRead .reading] = true :=
            by decide

theorem witness_SequencerStepIsOneEvent :
    (st [.opSeek]).alone ∧ (st [.opSeek]).reg.spc ≠ [.idle] ∧ (∃ t, step (st [.opSeek]) = .next t)
          ∧ Good (st [.opSeek]) :=
  ⟨⟨rfl, rfl⟩, by decide, ⟨_, rfl⟩, ⟨by decide, by decide, by decide, by decide, by decide, by decide, by decide,
        by decide⟩⟩

theorem witness_FirstCauseStays :
    (let s := ((st [.sendbyte .paced .d0 7, .sendframe .moving .d0 .two]).turned
          { (st [.sendbyte .paced .d0 7, .sendframe .moving .d0 .two]).reg with pcnt := 127, err := 3 });
        (encode .seqSendbyte).1 ≠ .host ∧ Instr.seqSendbyte ≠ .seqIdle ∧ s.reg.err ≠ 0 ∧ ∃ t,
              exec .seqSendbyte s = .next t)
      ∧ (let s := ((st [.sendbyte .paced .d0 7, .sendframe .moving .d0 .two]).turned
            { (st [.sendbyte .paced .d0 7, .sendframe .moving .d0 .two]).reg with pcnt := 127 });
        s.reg.err = 0 ∧ ∃ t, exec .seqSendbyte s = .next t ∧ t.reg.err = 1) :=
  ⟨⟨by decide, by decide, by decide, _, rfl⟩, ⟨rfl, _, rfl, rfl⟩⟩

theorem witness_SignalAndEnableHaveOneWriter :
    (∃ t, exec .seqIrq (st [.idle]) = .next t ∧ (st [.idle]).reg.cs = false ∧ t.reg.cs = true)
      ∧ (∃ t, exec .seqWait ((st [.wait .start .d0, .resetseq .testing .d0]).turned
            { (st [.wait .start .d0, .resetseq .testing .d0]).reg with cs := true }) = .next t ∧ t.reg.cs = false)
      ∧ (∃ t, exec .seqInit (State.reset.withSpc [.init .install]) = .next t ∧ State.reset.reg.ie = false
            ∧ t.reg.ie = true) :=
  ⟨⟨_, rfl, rfl, rfl⟩, ⟨_, rfl, rfl⟩, ⟨_, rfl, rfl, rfl⟩⟩

theorem witness_TrackedCylinderIsReported :
    (∃ t, exec .seqSeekcyl ((st [.seekcyl .waiting .d1 0x27, .readblock .seeking .d1 0 0]).turned
          { (st [.seekcyl .waiting .d1 0x27, .readblock .seeking .d1 0 0]).reg with drv1 := { openDrive with rcyl := 0x27 } }) = .next t ∧ t.reg.drv1.curCyl = 0x27)
      ∧ (∃ t, exec .seqRecalibrate ((st [.recalibrate .waiting .d1, .resetseq (.homing .ok) .d1]).turned
          { (st [.recalibrate .waiting .d1, .resetseq (.homing .ok) .d1]).reg with
            drv1 := { openDrive with curCyl := 0x27, rcyl := 0 } }) = .next t ∧ t.reg.drv1.curCyl = 0) :=
  ⟨⟨_, rfl, rfl⟩, ⟨_, rfl, rfl⟩⟩

theorem witness_DriveFieldsKeepTheirWriters :
    (∃ t, exec .seqOpen ((st [.opOpen .start]).turned
          { (st [.opOpen .start]).reg with a := 0x30, drv0 := { openDrive with lock := false } }) = .next t
          ∧ t.reg.drv0.lock = true)
      ∧ (∃ t, exec .seqClose (st [.opClose .stopping]) = .next t ∧ t.reg.drv0.lock = false)
      ∧ (∃ t, exec .seqRead (st [.opRead .reading]) = .next t ∧ t.reg.drv0.cursor = 1)
      ∧ (∃ t, exec .seqInit (State.reset.withSpc [.init (.types 0x50)]) = .next t ∧ t.reg.drv0.geom = 5)
      ∧ (∃ t, exec (.fdcSisResult 0x20 5) (st [.idle]) = .next t ∧ t.reg.drv0.st0 = 0x20)
      ∧ (∃ t, exec .seqSeekcyl ((st [.seekcyl .waiting .d0 9, .readblock .seeking .d0 0 0]).turned
          { (st [.seekcyl .waiting .d0 9, .readblock .seeking .d0 0 0]).reg with
            drv0 := { openDrive with rcyl := 9 } }) = .next t ∧ t.reg.drv0.curCyl = 9) :=
  ⟨⟨_, rfl, rfl⟩, ⟨_, rfl, rfl⟩, ⟨_, rfl, rfl⟩, ⟨_, rfl, rfl⟩, ⟨_, rfl, rfl⟩, ⟨_, rfl, rfl⟩⟩

theorem witness_CommandLatchIsHeld :
    ((encode .seqSeek).1 ≠ .host ∧ Instr.seqSeek ≠ .seqIdle ∧ ∃ t, exec .seqSeek (st [.opSeek]) = .next t) :=
  ⟨by decide, by decide, _, rfl⟩

theorem witness_InstructionMakesAtMostOneEvent :
    (∃ t, exec (.driveTypeByte 5 1) (st [.idle]) = .next t ∧ t.env.trace.length = 2) :=
  ⟨_, rfl, rfl⟩

theorem witness_ShadowFollowsTheWrites :
    (∃ t, exec .dorRun1 (st [.idle]) = .next t ∧ t.dorsh .secondary = 0x2D ∧ t.dorsh .primary = 0) :=
  ⟨_, rfl, rfl, rfl⟩

theorem witness_MemoryChangesByOneWrittenByte :
    (∃ t, exec (.seqMemWr 0xFFFFFFFF 1) (st [.idle]) = .next t ∧ t.sysByte 0xFFFFFFFF = 1 ∧ t.sysByte 0 = 0) :=
  ⟨_, rfl, rfl, rfl⟩

theorem witness_OtherDriveIsUntouched :
    ((st [.recalibrate .waiting .d1, .resetseq (.homing .ok) .d1]).reg.spc = [.recalibrate .waiting .d1,
          .resetseq (.homing .ok) .d1] ∧ (Frame.recalibrate .waiting .d1).drive? = some .d1
      ∧ DriveId.d0 ≠ .d1 ∧ ∃ t, exec (Frame.recalibrate .waiting .d1).instr (st [.recalibrate .waiting .d1,
            .resetseq (.homing .ok) .d1]) = .next t) :=
  ⟨rfl, rfl, by decide, _, rfl⟩

theorem witness_OriginFieldIsInert :
    ((st [.idle]).reg.spc = [.idle])
      ∧ ((encode .seqSeek).1 ≠ .host ∧ Instr.seqSeek ≠ .seqIdle ∧ ((st [.opSeek]).setOrigin 2).reg.ctl = 0x20) :=
  ⟨rfl, by decide⟩

theorem witness_MemoryReadsBackWrites :
    (memOk [(0, 0xEB), (4294967295, 1)] = true)
      ∧ (let m := memSet (memSet [] 4294967295 1) 0 0xEB
        memOk m = true ∧ ∀ x : Addr, memGet [(0, 0xEB), (4294967295, 1)] x.toNat = memGet m x.toNat) :=
  ⟨by decide, by decide, fun _ => rfl⟩

theorem witness_BytePrimitivesEnd :
    (configOk (st [.sendbyte .start .d0 7, .sendframe .moving .d0 .two]).cfg = true
          ∧ (st [.sendbyte .start .d0 7, .sendframe .moving .d0 .two]).alone
        ∧ (st [.sendbyte .start .d0 7, .sendframe .moving .d0 .two]).reg.spc = [.sendbyte .start .d0 7,
              .sendframe .moving .d0 .two])
      ∧ (configOk (st [.getbyte .start .d0, .getframe .moving .d0 .two]).cfg = true ∧ (st [.getbyte .start .d0,
            .getframe .moving .d0 .two]).alone
        ∧ (st [.getbyte .start .d0, .getframe .moving .d0 .two]).reg.spc = [.getbyte .start .d0,
              .getframe .moving .d0 .two]) :=
  ⟨⟨by decide, ⟨rfl, rfl⟩, rfl⟩, ⟨by decide, ⟨rfl, rfl⟩, rfl⟩⟩

theorem witness_WaitPollsUntilItsLimit :
    (let s := st [.wait .missed .d0, .resetseq .testing .d0];
        configOk s.cfg = true ∧ s.alone ∧ s.reg.cs = false ∧ s.cfg.waitLimit = none ∧ s.reg.spc
              = [.wait .missed .d0, .resetseq .testing .d0])
      ∧ (let s := { st [.wait .start .d0, .resetseq .testing .d0] with cfg := { Config.standard with waitLimit := some 1 } };
        configOk s.cfg = true ∧ s.alone ∧ s.reg.cs = false ∧ s.cfg.waitLimit = some (0 + 1) ∧ s.reg.spc
              = [.wait .start .d0, .resetseq .testing .d0]) :=
  ⟨⟨by decide, ⟨rfl, rfl⟩, rfl, rfl, rfl⟩, ⟨by decide, ⟨rfl, rfl⟩, rfl, rfl, rfl⟩⟩

/-- A caller's buffer directly below the DMA buffer, as near as one can lie without overlap. -/
theorem witness_CopyblkCopiesTheBlock :
    let s := st [.copyblk .start 0x0000FE00, .readblock .copying .d0 0 0x0000FE00]
    (configOk s.cfg = true ∧ s.alone ∧ memOk s.env.sys = true
      ∧ s.reg.spc = [.copyblk .start 0x0000FE00, .readblock .copying .d0 0 0x0000FE00])
      ∧ ∀ i j : Nat,
            i < 512 → j < 512 → (0x0000FE00 : Addr) + BitVec.ofNat 32 i ≠ s.cfg.dmaBufAddr + BitVec.ofNat 32 j := by
  refine ⟨⟨by decide, ⟨rfl, rfl⟩, rfl, rfl⟩, ?_⟩
  intro i j hi hj
  show (0xFE00#32 : Addr) + BitVec.ofNat 32 i ≠ 0x00010000#32 + BitVec.ofNat 32 j
  intro h
  have h := congrArg BitVec.toNat h
  simp only [BitVec.toNat_add, BitVec.toNat_ofNat] at h
  omega

end Sys2Proof.Machine
end

section
/-! PROOF. What one instruction of a sequence can do: make one event, or move on the stack towards the next one. -/

namespace Sys2Proof.Machine

-- The call table (10 R14): a frame is called by its sequence and its operands, whatever its place

/-- The frame with its place forgotten: the sequence and the operands it was called with. -/
def Frame.started : Frame → Frame
  | .init _ => .init .start
  | .opOpen _ => .opOpen .start
  | .opClose _ => .opClose .start
  | .opRead _ => .opRead .start
  | .readblock _ d b buf => .readblock .start d b buf
  | .copyblk _ buf => .copyblk .start buf
  | .motoron _ d => .motoron .start d
  | .motoroff _ d => .motoroff .start d
  | .recalibrate _ d => .recalibrate .start d
  | .seekcyl _ d x => .seekcyl .start d x
  | .resetseq _ d => .resetseq .start d
  | .wait _ d => .wait .start d
  | .sendframe _ d n => .sendframe .start d n
  | .getframe _ d n => .getframe .start d n
  | .sendbyte _ d v => .sendbyte .start d v
  | .getbyte _ d => .getbyte .start d
  | f => f

theorem callOk_started (h : DriveId) (g c : Frame) : callOk h g.started c = callOk h g c := by
  cases c with
  | opOpen p | opClose p | opRead p | readblock p | recalibrate p | seekcyl p | resetseq p | wait p
  | sendframe p | getframe p =>
    cases p <;> cases g with
    | sendframe _ _ n | getframe _ _ n => cases n <;> rfl
    | _ => rfl
  | _ => rfl

theorem bottomOk_started (g : Frame) : bottomOk g.started = bottomOk g := by
  cases g <;> rfl

/-- A frame may take the place of one with the same sequence and operands. -/
theorem stackOk_of_started_eq {h : DriveId} {f f' : Frame} (hf : f'.started = f.started)
    (below : List Frame) : stackOk h (f' :: below) = stackOk h (f :: below) := by
  cases below with
  | nil => simp only [stackOk]; rw [← bottomOk_started f', hf, bottomOk_started]
  | cons c rest => simp only [stackOk]; rw [← callOk_started h f', hf, callOk_started]

/-- The greatest number of frames a legal stack has when this frame is on top. -/
def Frame.maxDepth : Frame → Nat
  | .readblock _ _ _ _ => 2
  | .copyblk _ _ | .seekcyl _ _ _ | .resetseq _ _ => 3
  | .recalibrate _ _ => 4
  | .motoron _ _ | .motoroff _ _ | .wait _ _ => 5
  | .sendframe _ _ _ | .getframe _ _ _ => 6
  | .sendbyte _ _ _ | .getbyte _ _ => 7
  | _ => 1

/-- A call goes one level up; what is called is no bottom frame, and IDLE and INIT call nothing. -/
theorem callOk_shape {h : DriveId} {g c : Frame} (hc : callOk h g c = true) :
    c.maxDepth < g.maxDepth ∧ bottomOk g = false ∧ c ≠ .idle ∧ ∀ p, c ≠ .init p := by
  unfold callOk at hc
  split at hc
  case h_26 => cases hc
  all_goals exact ⟨by simp [Frame.maxDepth], rfl, by simp, by simp⟩

theorem stackOk_length_le (h : DriveId) (f : Frame) (below : List Frame)
    (hl : stackOk h (f :: below) = true) : (f :: below).length ≤ f.maxDepth := by
  induction below generalizing f with
  | nil => cases f <;> simp [Frame.maxDepth]
  | cons c rest ih =>
    simp only [stackOk, Bool.and_eq_true] at hl
    obtain ⟨hcall, hrest⟩ := hl
    obtain ⟨hdepth, -⟩ := callOk_shape hcall
    have hlen := ih c hrest
    simp only [List.length_cons] at hlen ⊢
    omega

theorem Frame.maxDepth_le_seven (f : Frame) : f.maxDepth ≤ 7 := by
  cases f <;> simp [Frame.maxDepth]

/-- A bottom frame has nothing below it. -/
theorem stackOk_bottom {h : DriveId} {f : Frame} {below : List Frame} (hf : bottomOk f = true)
    (hl : stackOk h (f :: below) = true) : below = [] := by
  cases below with
  | nil => rfl
  | cons c rest =>
    simp only [stackOk, Bool.and_eq_true] at hl
    obtain ⟨hcall, -⟩ := hl
    obtain ⟨-, hcallee, -⟩ := callOk_shape hcall
    rw [hf] at hcallee
    cases hcallee

-- How many instructions without an event can follow (assumption 2)

/-- Whether the frame's sequence can return from this place. -/
def Frame.mayReturn : Frame → Bool
  | .readblock .copying _ _ _ | .readblock .rehoming _ _ _ => true
  | .readblock (.seekAborting _) _ _ _ | .readblock (.resetting _) _ _ _ => true
  | .copyblk .stored _ | .motoron .done _ | .motoroff .done _ | .recalibrate (.stopping _) _ => true
  | .seekcyl .start _ _ | .seekcyl .sending _ _ | .seekcyl .waiting _ _ | .resetseq (.homing _) _ => true
  | .wait .missed _ | .wait .sending _ | .wait .getting _ => true
  | .sendframe .moving _ _ | .getframe .moving _ _ => true
  | .sendbyte .paced _ _ | .sendbyte .moved _ _ | .getbyte .paced _ | .getbyte .moved _ => true
  | _ => false

/-- At most how many silent instructions run from this place up to an event or to the return of the
sequence, that return among them. -/
def Frame.silentSteps : Frame → Nat
  | .init (.types _) => 3
  | .init (.second _) | .opRead .start => 2
  | .readblock .spinning _ _ _ => 4
  | .readblock .programmed _ _ _ | .readblock .waiting _ _ _ | .readblock .draining _ _ _ => 2
  | .recalibrate .spinning _ | .seekcyl .start _ _ | .resetseq (.rated _) _ => 2
  | .wait .signalled _ | .wait .sending _ => 2
  | .copyblk .stored _ | .motoron .done _ | .motoroff .done _ => 1
  | .copyblk _ _ | .motoron _ _ | .motoroff _ _ => 0
  | .resetseq .start _ | .resetseq .enable _ | .resetseq .testing _ | .wait .start _ => 0
  | .sendbyte .start _ _ | .sendbyte .tested _ _ | .getbyte .start _ | .getbyte .tested _ => 0
  | _ => 1

theorem Frame.silentSteps_le_four (f : Frame) : f.silentSteps ≤ 4 := by
  unfold Frame.silentSteps
  split <;> decide

theorem Frame.silentSteps_pos {f : Frame} (hf : f.mayReturn = true) : 0 < f.silentSteps := by
  unfold Frame.mayReturn at hf
  split at hf
  case h_22 => cases hf
  all_goals simp [Frame.silentSteps]

/-- At most how many silent instructions run from this stack up to the next event. -/
def silentBound : List Frame → Nat
  | [] => 0
  | f :: below => f.silentSteps + if f.mayReturn then silentBound below else 0

theorem silentBound_of_mayReturn {f : Frame} (hf : f.mayReturn = true) (below : List Frame) :
    silentBound (f :: below) = f.silentSteps + silentBound below := by
  simp only [silentBound, if_pos hf]

theorem silentBound_le (l : List Frame) : silentBound l ≤ 4 * l.length := by
  induction l with
  | nil => rfl
  | cons f below ih =>
    have hf := f.silentSteps_le_four
    simp only [silentBound, List.length_cons]
    split <;> omega

/-- No legal stack has a chain of silent instructions as long as the fuel of a sequencer step. -/
theorem silentBound_lt_silentFuel {h : DriveId} {l : List Frame} (hl : stackOk h l = true) :
    silentBound l < silentFuel := by
  cases l with
  | nil => cases hl
  | cons f below =>
    have hlen := stackOk_length_le h f below hl
    have hmax := f.maxDepth_le_seven
    have hbound := silentBound_le (f :: below)
    unfold silentFuel
    omega

/-- What an instruction without an event does to the stack: INIT goes on or ends, a sequence calls
another, a sequence returns. -/
inductive SilentMove (h : DriveId) : List Frame → List Frame → Prop
  | goOn {p q : InitPlace} {below : List Frame} :
      (Frame.init q).silentSteps < (Frame.init p).silentSteps →
      SilentMove h (.init p :: below) (.init q :: below)
  | install {p : InitPlace} {below : List Frame} : SilentMove h (.init p :: below) [.idle]
  | call {f f' g : Frame} {below : List Frame} :
      f'.started = f.started → callOk h g f' = true →
      silentBound (g :: f' :: below) < f.silentSteps → SilentMove h (f :: below) (g :: f' :: below)
  | ret {f : Frame} {below : List Frame} :
      f.mayReturn = true → below ≠ [] → SilentMove h (f :: below) below

/-- A legal stack of a block that is not idle. -/
def BusyStack (h : DriveId) (l : List Frame) : Prop := stackOk h l = true ∧ l.head? ≠ some .idle

theorem busyStack_of_ne_idle {h : DriveId} {l : List Frame} (hl : stackOk h l = true) (hne : l ≠ [.idle]) :
    BusyStack h l := by
  refine ⟨hl, fun hhead => hne ?_⟩
  obtain ⟨below, rfl⟩ := List.head?_eq_some_iff.mp hhead
  rw [stackOk_bottom rfl hl]

/-- A silent move keeps a busy stack legal and brings it nearer to an event, or it ends INIT. -/
theorem SilentMove.keeps_busy {h : DriveId} {l l' : List Frame} (m : SilentMove h l l')
    (hl : BusyStack h l) :
    (BusyStack h l' ∧ silentBound l' < silentBound l) ∨ (l' = [.idle] ∧ ∃ p, l = [.init p]) := by
  obtain ⟨hok, hbusy⟩ := hl
  cases m with
  | @goOn p q below hlt =>
    refine .inl ⟨⟨(stackOk_of_started_eq (f := .init p) (f' := .init q) rfl below).trans hok, by simp⟩, ?_⟩
    simpa [silentBound, Frame.mayReturn] using hlt
  | install => exact .inr ⟨rfl, _, by rw [stackOk_bottom rfl hok]⟩
  | call hsame hcall hlt =>
    obtain ⟨-, hcallee, -⟩ := callOk_shape hcall
    refine .inl ⟨⟨?_, ?_⟩, Nat.lt_of_lt_of_le hlt (Nat.le_add_right _ _)⟩
    · simp only [stackOk, hcall, Bool.true_and]
      rw [stackOk_of_started_eq hsame, hok]
    · rintro hidle
      injection hidle with hidle
      rw [hidle] at hcallee
      cases hcallee
  | ret hret hbelow =>
    cases l' with
    | nil => exact absurd rfl hbelow
    | cons c rest =>
      simp only [stackOk, Bool.and_eq_true] at hok
      obtain ⟨hcall, hrest⟩ := hok
      obtain ⟨-, -, hcaller, -⟩ := callOk_shape hcall
      refine .inl ⟨⟨hrest, fun hidle => ?_⟩, ?_⟩
      · injection hidle with hidle
        exact hcaller hidle
      · have hpos := Frame.silentSteps_pos hret
        rw [silentBound_of_mayReturn hret]
        omega

/-- Only INIT itself leads silently to INIT. -/
theorem SilentMove.to_init {h : DriveId} {l l' : List Frame} (m : SilentMove h l l') (hl : stackOk h l = true)
    (hinit : ∃ p, l' = [.init p]) : ∃ p, l = [.init p] := by
  obtain ⟨q, hq⟩ := hinit
  cases m with
  | goOn => obtain ⟨-, rfl⟩ := List.cons.inj hq; exact ⟨_, rfl⟩
  | install => cases hq
  | call => cases hq
  | ret =>
    subst hq
    simp only [stackOk, Bool.and_eq_true] at hl
    obtain ⟨hcall, -⟩ := hl
    obtain ⟨-, -, -, hcaller⟩ := callOk_shape hcall
    exact absurd rfl (hcaller q)

end Sys2Proof.Machine
end

section
/-! PROOF. For each sequence with frames: one instruction of it makes one event, or is silent and moves the stack. -/

namespace Sys2Proof.Machine

/-- What one instruction of a sequence does: it keeps the configuration and the command latch's control
byte, and makes exactly one event, or none and a silent move. -/
structure Advance (s s' : State) : Prop where
  cfg : s'.cfg = s.cfg
  ctl : s'.reg.ctl = s.reg.ctl
  move : (∃ e, s'.env.trace = e :: s.env.trace)
    ∨ (s'.env.trace = s.env.trace ∧ SilentMove s.handle s.reg.spc s'.reg.spc)

namespace Advance

variable {s s' u : State} {f f' g : Frame} {below : List Frame} {o : SeqOutcome}

theorem of_event (cfg : s'.cfg = s.cfg := by simp) (ctl : s'.reg.ctl = s.reg.ctl := by simp)
    (event : ∃ e, s'.env.trace = e :: s.env.trace := by simp) : Advance s s' := ⟨cfg, ctl, .inl event⟩

theorem of_call (hs : s.reg.spc = f :: below) (hs' : s'.reg.spc = g :: f' :: below)
    (same : f'.started = f.started := by rfl) (ok : callOk s.handle g f' = true := by simp [callOk])
    (nearer : silentBound (g :: f' :: below) < f.silentSteps := by
      simp [silentBound, Frame.silentSteps, Frame.mayReturn])
    (cfg : s'.cfg = s.cfg := by simp) (ctl : s'.reg.ctl = s.reg.ctl := by simp)
    (quiet : s'.env.trace = s.env.trace := by simp) : Advance s s' := by
  refine ⟨cfg, ctl, .inr ⟨quiet, ?_⟩⟩
  rw [hs, hs']
  exact .call same ok nearer

theorem of_return (hs : s.reg.spc = f :: below) (hr : returnTo below o u = .next s')
    (may : f.mayReturn = true := by rfl)
    (cfg : u.cfg = s.cfg := by simp) (ctl : u.reg.ctl = s.reg.ctl := by simp)
    (quiet : u.env.trace = s.env.trace := by simp) : Advance s s' := by
  obtain ⟨hbelow, rfl⟩ := returnTo_inv hr
  refine ⟨cfg, ctl, .inr ⟨quiet, ?_⟩⟩
  rw [hs]
  exact .ret may hbelow

end Advance

-- Detection and INIT (47 R190)

/-- Detection of a drive makes at most its one Register event. -/
theorem detectDrive_effect (d : DriveId) (x : BitVec 4) (s : State) :
    (detectDrive d x s).cfg = s.cfg ∧ (detectDrive d x s).reg.ctl = s.reg.ctl
      ∧ ((detectDrive d x s).env.trace = s.env.trace
        ∨ ∃ e, (detectDrive d x s).env.trace = e :: s.env.trace) := by
  rcases detectDrive_cases d x s with ⟨-, h⟩ | ⟨-, h⟩
  · rw [h]; simp
  · rw [h]; simp

/-- INIT goes on to its next place when it has detected a drive. -/
theorem Advance.of_detect {s : State} {p q : InitPlace} {below : List Frame} (d : DriveId) (x : BitVec 4)
    (hs : s.reg.spc = .init p :: below) (nearer : (Frame.init q).silentSteps < (Frame.init p).silentSteps) :
    Advance s ((detectDrive d x s).withSpc (.init q :: below)) := by
  obtain ⟨hcfg, hctl, hquiet | hevent⟩ := detectDrive_effect d x s
  · refine ⟨hcfg, hctl, .inr ⟨hquiet, ?_⟩⟩
    rw [hs]
    exact .goOn nearer
  · exact .of_event hcfg hctl hevent

theorem execSeqInit_advances {s s' : State} (h : execSeqInit s = .next s') : Advance s s' := by
  unfold execSeqInit at h
  split at h
  case h_1 => cases h; exact .of_event
  case h_2 v below hs => cases h; exact .of_detect _ _ hs (by simp [Frame.silentSteps])
  case h_3 v below hs => cases h; exact .of_detect _ _ hs (by simp [Frame.silentSteps])
  case h_4 below hs =>
    cases h
    exact ⟨rfl, rfl, .inr ⟨rfl, by rw [hs]; exact .install⟩⟩
  case h_5 => cases h

-- The host operations (46 R172 to R177)

theorem execSeqOpen_advances {s s' : State} (h : execSeqOpen s = .next s') : Advance s s' := by
  unfold execSeqOpen at h
  split at h
  case h_1 below hs =>
    split at h
    · cases h; exact .of_event
    · split at h <;> cases h
      · exact .of_event
      · exact .of_call hs rfl
  case h_2 => cases h; exact .of_event
  case h_3 => cases h

theorem execSeqClose_advances {s s' : State} (h : execSeqClose s = .next s') : Advance s s' := by
  unfold execSeqClose at h
  split at h
  case h_1 below hs =>
    split at h <;> cases h
    · exact .of_call hs rfl
    · exact .of_event
  case h_2 => cases h; exact .of_event
  case h_3 => cases h

theorem execSeqRead_advances {s s' : State} (h : execSeqRead s = .next s') : Advance s s' := by
  unfold execSeqRead at h
  split at h
  case h_1 below hs =>
    dsimp only at h
    split at h
    · cases h; exact .of_event
    · split at h
      · cases h; exact .of_event
      · split at h <;> cases h
        · exact .of_event
        · exact .of_call hs rfl
  case h_2 => split at h <;> cases h <;> exact .of_event
  case h_3 => cases h

theorem execSeqWrite_advances {s s' : State} (h : execSeqWrite s = .next s') : Advance s s' := by
  unfold execSeqWrite at h
  split at h <;> cases h
  exact .of_event

theorem execSeqSeek_advances {s s' : State} (h : execSeqSeek s = .next s') : Advance s s' := by
  unfold execSeqSeek at h
  split at h
  · split at h <;> cases h <;> exact .of_event
  · cases h

theorem execSeqIllegal_advances {s s' : State} (h : execSeqIllegal s = .next s') : Advance s s' := by
  unfold execSeqIllegal at h
  split at h <;> cases h
  exact .of_event

-- The block I/O engine (45 R150, R157)

theorem execSeqReadblock_advances {s s' : State} (h : execSeqReadblock s = .next s') : Advance s s' := by
  unfold execSeqReadblock at h
  split at h
  case h_1 d b buf below hs =>
    rcases xlate_cases b.toNat (s.geomOf d).heads (s.geomOf d).sectors s with ⟨-, hx⟩ | ⟨-, -, hx⟩
    · rw [hx] at h; cases h
    · rw [hx] at h; cases h; exact .of_call hs rfl
  case h_2 d b buf below hs => cases h; exact .of_call hs rfl
  case h_3 d b buf below hs =>
    split at h <;> cases h
    · exact .of_call hs rfl
    · exact .of_event
  case h_4 d b buf below hs => cases h; exact .of_call hs rfl
  case h_5 d b buf below hs => split at h <;> cases h <;> exact .of_call hs rfl
  case h_6 d b buf below hs => split at h <;> cases h <;> exact .of_call hs rfl
  case h_7 d b buf below hs =>
    split at h <;> cases h
    · exact .of_call hs rfl
    · rcases stepEight_cases d b buf below s with ⟨-, he⟩ | ⟨-, he⟩ <;> rw [he] <;> exact .of_call hs rfl
  case h_8 d b buf below hs => cases h; exact .of_call hs rfl
  case h_9 d b buf below hs => exact .of_return hs h
  case h_10 d b buf below hs =>
    split at h
    · cases h; exact .of_call hs rfl
    · exact .of_return hs h
  case h_11 c d b buf below hs => exact .of_return hs h
  case h_12 c d b buf below hs => exact .of_return hs h
  case h_13 => cases h

theorem execSeqCopyblk_advances {s s' : State} (h : execSeqCopyblk s = .next s') : Advance s s' := by
  unfold execSeqCopyblk at h
  split at h
  case h_1 => cases h; exact .of_event
  case h_2 => cases h; exact .of_event
  case h_3 buf below hs =>
    dsimp only at h
    split at h
    · cases h; exact .of_event
    · exact .of_return hs h
  case h_4 => cases h

-- The drive state machine (44 R130 to R134)

theorem execSeqMotoron_advances {s s' : State} (h : execSeqMotoron s = .next s') : Advance s s' := by
  unfold execSeqMotoron at h
  split at h
  case h_1 => cases h; exact .of_event
  case h_2 d below hs => exact .of_return hs h
  case h_3 => cases h

theorem execSeqMotoroff_advances {s s' : State} (h : execSeqMotoroff s = .next s') : Advance s s' := by
  unfold execSeqMotoroff at h
  split at h
  case h_1 => cases h; exact .of_event
  case h_2 d below hs => exact .of_return hs h
  case h_3 => cases h

theorem execSeqRecalibrate_advances {s s' : State} (h : execSeqRecalibrate s = .next s') : Advance s s' := by
  unfold execSeqRecalibrate at h
  split at h
  case h_1 d below hs => cases h; exact .of_call hs rfl
  case h_2 d below hs => cases h; exact .of_call hs rfl
  case h_3 d below hs => split at h <;> cases h <;> exact .of_call hs rfl
  case h_4 d below hs =>
    split at h <;> cases h <;> exact .of_call hs rfl
  case h_5 r d below hs => exact .of_return hs h
  case h_6 => cases h

theorem execSeqSeekcyl_advances {s s' : State} (h : execSeqSeekcyl s = .next s') : Advance s s' := by
  unfold execSeqSeekcyl at h
  split at h
  case h_1 d x below hs =>
    split at h
    · exact .of_return hs h
    · cases h; exact .of_call hs rfl
  case h_2 d x below hs =>
    split at h
    · exact .of_return hs h
    · cases h; exact .of_call hs rfl
  case h_3 d x below hs =>
    split at h
    · exact .of_return hs h
    · split at h <;> exact .of_return hs h
  case h_4 => cases h

theorem execSeqResetseq_advances {s s' : State} (h : execSeqResetseq s = .next s') : Advance s s' := by
  unfold execSeqResetseq at h
  split at h
  case h_1 => cases h; exact .of_event
  case h_2 => cases h; exact .of_event
  case h_3 d below hs => cases h; exact .of_call hs rfl
  case h_4 => cases h; exact .of_event
  case h_5 r d below hs => cases h; exact .of_call hs rfl
  case h_6 r d below hs => split at h <;> exact .of_return hs h
  case h_7 => cases h

-- WAIT (42 R112)

theorem waitPoll_advances (d : DriveId) (below : List Frame) (s u : State) (cfg : u.cfg = s.cfg)
    (ctl : u.reg.ctl = s.reg.ctl) (quiet : u.env.trace = s.env.trace) : Advance s (waitPoll d below u) := by
  rcases waitPoll_cases d below u with ⟨-, h⟩ | ⟨-, h⟩ <;> rw [h] <;>
    exact .of_event cfg ctl ⟨_, congrArg _ quiet⟩

theorem execSeqWait_advances {s s' : State} (h : execSeqWait s = .next s') : Advance s s' := by
  unfold execSeqWait at h
  split at h
  case h_1 => cases h; exact waitPoll_advances _ _ _ _ rfl rfl rfl
  case h_2 d below hs =>
    rcases waitMissed_cases d below s with ⟨-, hm⟩ | ⟨_, -, -, hm⟩ | ⟨-, hm⟩ <;> rw [hm] at h
    · cases h; exact waitPoll_advances _ _ _ _ rfl rfl rfl
    · cases h; exact waitPoll_advances _ _ _ _ rfl rfl rfl
    · exact .of_return hs h
  case h_3 d below hs => cases h; exact .of_call hs rfl
  case h_4 d below hs =>
    split at h
    · exact .of_return hs h
    · cases h; exact .of_call hs rfl
  case h_5 d below hs => split at h <;> exact .of_return hs h
  case h_6 => cases h

-- The byte protocol (41 R100 to R103)

theorem SendLen.bytes_pos (n : SendLen) : 0 < n.bytes := by cases n <;> decide
theorem GetLen.bytes_pos (n : GetLen) : 0 < n.bytes := by cases n <;> decide

/-- The head of SENDFRAME's loop calls SENDBYTE or returns `Ok` (41 R102). -/
theorem sendLoop_advances {d : DriveId} {n : SendLen} {below : List Frame} {s u s' : State}
    (hs : s.reg.spc = .sendframe .moving d n :: below) (h : sendLoop d n below u = .next s')
    (cfg : u.cfg = s.cfg) (ctl : u.reg.ctl = s.reg.ctl) (quiet : u.env.trace = s.env.trace) : Advance s s' := by
  rcases sendLoop_cases d n below u with ⟨-, hl⟩ | ⟨-, hl⟩ <;> rw [hl] at h
  · cases h; exact .of_call hs rfl (cfg := cfg) (ctl := ctl) (quiet := quiet)
  · exact .of_return hs h (cfg := cfg) (ctl := ctl) (quiet := quiet)

/-- A loop that begins with `FI` 0 moves at least one byte (41 R102). -/
theorem sendLoop_first {d : DriveId} {n : SendLen} {below : List Frame} {u : State} (hfi : u.reg.fi = 0) :
    sendLoop d n below u = .next
      (u.withSpc (.sendbyte .start d (fbAt u u.reg.fi.toNat) :: .sendframe .moving d n :: below)) :=
  if_pos (by rw [hfi]; exact n.bytes_pos)

theorem execSeqSendframe_advances {s s' : State} (h : execSeqSendframe s = .next s') : Advance s s' := by
  unfold execSeqSendframe at h
  split at h
  case h_1 d n below hs => rw [sendLoop_first rfl] at h; cases h; exact .of_call hs rfl
  case h_2 d n below hs =>
    split at h
    · exact .of_return hs h
    · exact sendLoop_advances hs h rfl rfl rfl
  case h_3 => cases h

/-- The head of GETFRAME's loop calls GETBYTE or returns `Ok` (41 R103). -/
theorem getLoop_advances {d : DriveId} {n : GetLen} {below : List Frame} {s u s' : State}
    (hs : s.reg.spc = .getframe .moving d n :: below) (h : getLoop d n below u = .next s')
    (cfg : u.cfg = s.cfg) (ctl : u.reg.ctl = s.reg.ctl) (quiet : u.env.trace = s.env.trace) : Advance s s' := by
  rcases getLoop_cases d n below u with ⟨-, hl⟩ | ⟨-, hl⟩ <;> rw [hl] at h
  · cases h; exact .of_call hs rfl (cfg := cfg) (ctl := ctl) (quiet := quiet)
  · exact .of_return hs h (cfg := cfg) (ctl := ctl) (quiet := quiet)

/-- A loop that begins with `FI` 0 moves at least one byte (41 R103). -/
theorem getLoop_first {d : DriveId} {n : GetLen} {below : List Frame} {u : State} (hfi : u.reg.fi = 0) :
    getLoop d n below u = .next (u.withSpc (.getbyte .start d :: .getframe .moving d n :: below)) :=
  if_pos (by rw [hfi]; exact n.bytes_pos)

theorem execSeqGetframe_advances {s s' : State} (h : execSeqGetframe s = .next s') : Advance s s' := by
  unfold execSeqGetframe at h
  split at h
  case h_1 d n below hs => rw [getLoop_first rfl] at h; cases h; exact .of_call hs rfl
  case h_2 d n below hs =>
    split at h
    · exact .of_return hs h
    · exact getLoop_advances hs h rfl rfl rfl
  case h_3 => cases h

theorem sendTest_advances (d : DriveId) (v : Byte) (below : List Frame) (s u : State) (cfg : u.cfg = s.cfg)
    (ctl : u.reg.ctl = s.reg.ctl) (quiet : u.env.trace = s.env.trace) : Advance s (sendTest d v below u) := by
  rcases sendTest_cases d v below u with ⟨-, h⟩ | ⟨-, h⟩ <;> rw [h] <;>
    exact .of_event (by simp [cfg]) (by simp [ctl]) (by simp [quiet])

theorem getTest_advances (d : DriveId) (below : List Frame) (s u : State) (cfg : u.cfg = s.cfg)
    (ctl : u.reg.ctl = s.reg.ctl) (quiet : u.env.trace = s.env.trace) : Advance s (getTest d below u) := by
  rcases getTest_cases d below u with ⟨-, h⟩ | ⟨-, h⟩ <;> rw [h] <;>
    exact .of_event (by simp [cfg]) (by simp [ctl]) (by simp [quiet])

theorem execSeqSendbyte_advances {s s' : State} (h : execSeqSendbyte s = .next s') : Advance s s' := by
  unfold execSeqSendbyte at h
  split at h
  case h_1 => cases h; exact .of_event
  case h_2 => cases h; exact sendTest_advances _ _ _ _ _ rfl rfl rfl
  case h_3 d v below hs =>
    dsimp only at h
    split at h
    · exact .of_return hs h
    · cases h; exact .of_event
  case h_4 d v below hs => exact .of_return hs h
  case h_5 => cases h

theorem execSeqGetbyte_advances {s s' : State} (h : execSeqGetbyte s = .next s') : Advance s s' := by
  unfold execSeqGetbyte at h
  split at h
  case h_1 => cases h; exact .of_event
  case h_2 => cases h; exact getTest_advances _ _ _ _ rfl rfl rfl
  case h_3 d below hs =>
    dsimp only at h
    split at h
    · exact .of_return hs h
    · cases h; exact .of_event
  case h_4 d below hs => exact .of_return hs h
  case h_5 => cases h

/-- Whatever busy frame's sequence runs, it advances. -/
theorem exec_frame_advances {f : Frame} (hf : f ≠ .idle) {s s' : State} (h : exec f.instr s = .next s') :
    Advance s s' := by
  cases f with
  | idle => exact absurd rfl hf
  | init => exact execSeqInit_advances h
  | opOpen => exact execSeqOpen_advances h
  | opClose => exact execSeqClose_advances h
  | opRead => exact execSeqRead_advances h
  | opWrite => exact execSeqWrite_advances h
  | opSeek => exact execSeqSeek_advances h
  | opIllegal => exact execSeqIllegal_advances h
  | readblock => exact execSeqReadblock_advances h
  | copyblk => exact execSeqCopyblk_advances h
  | motoron => exact execSeqMotoron_advances h
  | motoroff => exact execSeqMotoroff_advances h
  | recalibrate => exact execSeqRecalibrate_advances h
  | seekcyl => exact execSeqSeekcyl_advances h
  | resetseq => exact execSeqResetseq_advances h
  | wait => exact execSeqWait_advances h
  | sendframe => exact execSeqSendframe_advances h
  | getframe => exact execSeqGetframe_advances h
  | sendbyte => exact execSeqSendbyte_advances h
  | getbyte => exact execSeqGetbyte_advances h

end Sys2Proof.Machine
end

section
/-! PROOF. The step of the machine, agent by agent, and the one event of a busy sequencer step (00 R9). -/

namespace Sys2Proof.Machine

-- Which instruction comes up (10 R14, 46 R170)

theorem fetch_busy {s : State} {f : Frame} {below : List Frame} (hs : s.reg.spc = f :: below)
    (hf : f ≠ .idle) : fetch s = some (f.instr, s) := by
  cases f with
  | idle => exact absurd rfl hf
  | _ => simp only [fetch, hs]

theorem fetch_command {s : State} {below : List Frame} {c : HostCmd} (hs : s.reg.spc = .idle :: below)
    (hc : s.env.cmd = some c) :
    fetch s = some (decodeHost c.ctl c.a c.b, { s with env := { s.env with cmd := none } }) := by
  simp only [fetch, hs, hc]

theorem fetch_waiting {s : State} {below : List Frame} (hs : s.reg.spc = .idle :: below)
    (hc : s.env.cmd = none) : fetch s = some (.seqIdle, s) := by
  simp only [fetch, hs, hc]

-- When a sequencer step ends (00 R9)

theorem stepDone_busy {s u : State} (hs : s.reg.spc.head? ≠ some .idle) :
    stepDone s u = true ↔
      u.env.trace.length ≠ s.env.trace.length ∨ u.reg.spc.head? = some .idle := by
  simp [stepDone, hs]

theorem stepDone_idle {s : State} (hs : s.reg.spc.head? = some .idle) (u : State) : stepDone s u = true := by
  simp [stepDone, hs]

-- One sequencer step, by the outcome of the instruction that comes up

section SequencerStep

variable {ex : Instr → State → Result} {n : Nat} {s s' u : State} {i : Instr}

theorem sequencerStep_of_next (hf : fetch s = some (i, s')) (hx : ex i s' = .next u) :
    sequencerStep ex (n + 1) s = if stepDone s' u then .next u else sequencerStep ex n u := by
  simp only [sequencerStep, hf, hx]

theorem sequencerStep_of_fault {r : Fault} (hf : fetch s = some (i, s')) (hx : ex i s' = .fault r) :
    sequencerStep ex (n + 1) s = .fault r := by
  simp only [sequencerStep, hf, hx]

theorem sequencerStep_of_refused {r : Refusal} (hf : fetch s = some (i, s')) (hx : ex i s' = .refused r) :
    sequencerStep ex (n + 1) s = .refused r := by
  simp only [sequencerStep, hf, hx]

/-- In IDLE the step is the one instruction that comes up, an accept or a wait (46 R170). -/
theorem sequencerStep_idle (hf : fetch s = some (i, s')) (hidle : s'.reg.spc.head? = some .idle) :
    sequencerStep ex (n + 1) s = ex i s' := by
  cases hx : ex i s' with
  | next u => rw [sequencerStep_of_next hf hx, if_pos (stepDone_idle hidle u)]
  | fault r => exact sequencerStep_of_fault hf hx
  | refused r => exact sequencerStep_of_refused hf hx

end SequencerStep

-- One step of the machine, by who moves (00 R9)

theorem step_configIllFormed {s : State} (hc : configOk s.cfg = false) : step s = .refused .configIllFormed := by
  simp [step, stepWith, hc]

theorem step_issued {s : State} {sp : Space} {bs : List Byte} {i : Instr} (hc : configOk s.cfg = true)
    (hi : s.env.issue = some (sp, bs)) (hd : decode sp bs = .ok i) :
    step s = exec i { s with env := { s.env with issue := none } } := by
  simp only [step, stepWith, hc, hi, hd, if_true]

theorem step_scheduled {s : State} {m : Move} {rest : List Move} (hc : configOk s.cfg = true)
    (hi : s.env.issue = none) (hm : s.env.sched = m :: rest) :
    step s = agentStep exec m { s with env := { s.env with sched := rest } } := by
  simp only [step, stepWith, hc, hi, hm, if_true]

theorem step_alone {s : State} (hc : configOk s.cfg = true) (ha : s.alone) :
    step s = sequencerStep exec 32 s := by
  obtain ⟨hi, hm⟩ := ha
  simp only [step, stepWith, hc, hi, hm, if_true, silentFuel]

/-- Settles O34, clause by clause from the rules of `step`, `sequencerStep` and `fetch`. -/
theorem stepRunsTheNextInstruction : Obligations.StepRunsTheNextInstruction := by
  intro s
  refine ⟨step_configIllFormed, fun hc => ⟨?_, ?_, ?_, ?_, ?_⟩⟩
  case refine_1 =>
    intro f below ha hs hf
    have hfetch := fetch_busy hs hf
    have hbusy : s.reg.spc.head? ≠ some .idle := by simpa [hs] using hf
    rw [step_alone hc ha]
    cases hx : exec f.instr s with
    | next u => simp only [sequencerStep_of_next hfetch hx, stepDone_busy hbusy]
    | fault r => exact sequencerStep_of_fault hfetch hx
    | refused r => exact sequencerStep_of_refused hfetch hx
  case refine_2 =>
    intro below c ha hs hcmd
    rw [step_alone hc ha]
    exact sequencerStep_idle (fetch_command hs hcmd) (by simp [hs])
  case refine_3 =>
    intro below ha hs hcmd
    rw [step_alone hc ha]
    exact sequencerStep_idle (fetch_waiting hs hcmd) (by simp [hs])
  case refine_4 =>
    intro rest hi hm
    exact step_scheduled hc hi hm
  case refine_5 =>
    intro sp bs i hi hd
    exact step_issued hc hi hd

/-- Settles O35: the schedule's head moves, and each agent's step is an update of its own. -/
theorem otherAgentsTakeTheirSteps : Obligations.OtherAgentsTakeTheirSteps := by
  intro s rest i a v c x hc hi
  refine ⟨fun hm => ?irqFire, fun hm hdma => ?dmaWrite, fun hm hdma => ?dmaDropped, fun hm => ?sysWrite,
    fun hm => ?present, fun hm => ?rst⟩ <;> rw [step_scheduled hc hi hm]
  case irqFire => cases hie : s.reg.ie <;> simp [agentStep, exec, execSeqIrq, hie]
  case dmaWrite => simp only [agentStep, hdma]; rfl
  case dmaDropped => simp only [agentStep, hdma]
  case sysWrite => rfl
  case present => rfl
  case rst => rfl

-- A busy sequencer step is one event (00 R9, R8)

theorem State.handle_congr {s u : State} (h : u.reg.ctl = s.reg.ctl) : u.handle = s.handle := by
  unfold State.handle
  rw [h]

/-- From a legal busy stack whose silent chains are shorter than the fuel, the sequencer step records one
event more, or ends INIT with none. -/
theorem sequencerStep_one_event {n : Nat} {s u : State} (hl : BusyStack s.handle s.reg.spc)
    (hn : silentBound s.reg.spc < n) (h : sequencerStep exec n s = .next u) :
    (∃ e, u.env.trace = e :: s.env.trace)
      ∨ (u.env.trace = s.env.trace ∧ u.reg.spc = [.idle] ∧ ∃ p, s.reg.spc = [.init p]) := by
  induction n generalizing s with
  | zero => exact absurd hn (Nat.not_lt_zero _)
  | succ n ih =>
    obtain ⟨hok, hbusy⟩ := hl
    obtain ⟨f, below, hs⟩ : ∃ f below, s.reg.spc = f :: below := by
      cases hspc : s.reg.spc with
      | nil => rw [hspc] at hok; cases hok
      | cons f below => exact ⟨f, below, rfl⟩
    have hf : f ≠ .idle := by simpa [hs] using hbusy
    have hfetch := fetch_busy hs hf
    cases hx : exec f.instr s with
    | fault r => rw [sequencerStep_of_fault hfetch hx] at h; cases h
    | refused r => rw [sequencerStep_of_refused hfetch hx] at h; cases h
    | next w =>
      rw [sequencerStep_of_next hfetch hx] at h
      obtain ⟨-, hctl, ⟨e, hevent⟩ | ⟨hquiet, hmove⟩⟩ := exec_frame_advances hf hx
      · rw [if_pos ((stepDone_busy hbusy).mpr (.inl (by simp [hevent])))] at h
        cases h
        exact .inl ⟨e, hevent⟩
      · obtain ⟨⟨hok', hbusy'⟩, hnearer⟩ | ⟨hidle, hinit⟩ := hmove.keeps_busy ⟨hok, hbusy⟩
        · have hgo : ¬ stepDone s w = true := by
            rw [stepDone_busy hbusy, hquiet]
            simpa using hbusy'
          rw [if_neg hgo] at h
          rw [← State.handle_congr hctl] at hok'
          obtain ⟨e, hevent⟩ | ⟨hquiet', hidle, hinit⟩ := ih ⟨hok', hbusy'⟩ (by omega) h
          · exact .inl ⟨e, by rw [hevent, hquiet]⟩
          · exact .inr ⟨hquiet'.trans hquiet, hidle, hmove.to_init hok hinit⟩
        · rw [if_pos ((stepDone_busy hbusy).mpr (.inr (by simp [hidle])))] at h
          cases h
          exact .inr ⟨hquiet, hidle, hinit⟩

/-- Settles O45: a legal stack has at most seven frames, so its silent chains end within the fuel. -/
theorem sequencerStepIsOneEvent : Obligations.SequencerStepIsOneEvent := by
  intro s u good alone hne h
  rw [step_alone good.config alone] at h
  exact sequencerStep_one_event (busyStack_of_ne_idle good.stack hne)
    (silentBound_lt_silentFuel good.stack) h

end Sys2Proof.Machine
end

section
/-! PROOF. No instruction but the two-drive detection makes more than one event (00 R9, 20 R49). -/

namespace Sys2Proof.Machine

/-- The configuration is kept and the trace is as it was, or one event longer. -/
def AtMostOneEvent (s s' : State) : Prop :=
  s'.cfg = s.cfg ∧ (s'.env.trace = s.env.trace ∨ ∃ e, s'.env.trace = e :: s.env.trace)

namespace AtMostOneEvent

variable {s s' : State}

theorem silent (cfg : s'.cfg = s.cfg := by simp) (quiet : s'.env.trace = s.env.trace := by simp) :
    AtMostOneEvent s s' := ⟨cfg, .inl quiet⟩

theorem event (cfg : s'.cfg = s.cfg := by simp) (event : ∃ e, s'.env.trace = e :: s.env.trace := by simp) :
    AtMostOneEvent s s' := ⟨cfg, .inr event⟩

theorem of_advance (h : Advance s s') : AtMostOneEvent s s' :=
  ⟨h.cfg, h.move.symm.imp And.left id⟩

/-- The step from a state that differs from the start in its registers alone. -/
theorem of_same_past {u : State} (h : AtMostOneEvent u s') (cfg : u.cfg = s.cfg := by simp)
    (quiet : u.env.trace = s.env.trace := by simp) : AtMostOneEvent s s' := by
  unfold AtMostOneEvent at h ⊢
  rwa [cfg, quiet] at h

end AtMostOneEvent

theorem accept_atMostOneEvent (ctl : Byte) (a : BitVec 64) (b : BitVec 32) (f : Frame) (s : State) :
    AtMostOneEvent s (accept ctl a b f s) := by
  rcases accept_cases ctl a b f s with ⟨-, h⟩ | ⟨-, h⟩ <;> rw [h] <;> exact .silent

theorem execSeqIdle_atMostOneEvent {s s' : State} (h : execSeqIdle s = .next s') : AtMostOneEvent s s' := by
  unfold execSeqIdle at h
  split at h
  · split at h <;> cases h
    · exact .silent
    · exact (accept_atMostOneEvent ..).of_same_past
  · cases h

theorem execSeqXlate_atMostOneEvent {b : BitVec 32} {heads sectors : Byte} {s s' : State}
    (h : execSeqXlate b heads sectors s = .next s') : AtMostOneEvent s s' := by
  unfold execSeqXlate at h
  rcases xlate_cases b.toNat heads.toNat sectors.toNat s with ⟨-, hx⟩ | ⟨-, -, hx⟩ <;> rw [hx] at h <;> cases h
  exact .silent

theorem takeStatus_atMostOneEvent {v : Byte} {s s' : State} (h : takeStatus v s = .next s') :
    AtMostOneEvent s s' := by
  unfold takeStatus at h
  dsimp only at h
  split at h <;> cases h
  · exact .of_advance (sendTest_advances _ _ _ _ _ rfl rfl rfl)
  · exact .of_advance (getTest_advances _ _ _ _ rfl rfl rfl)

theorem execSt0Success_atMostOneEvent {x : BitVec 6} {s s' : State} (h : execSt0Success x s = .next s') :
    AtMostOneEvent s s' := by
  unfold execSt0Success at h
  split at h
  · rename_i d b buf below _
    split at h <;> cases h
    rcases stepEight_cases d b buf below (s.setDrv d { s.drv d with st0 := (0 : BitVec 2) ++ x }) with
      ⟨-, he⟩ | ⟨-, he⟩ <;> rw [he] <;> exact .silent
  · cases h

/-- The detection of both drives makes at most one Register event for each (47 R190). -/
theorem execDriveTypeByte_effect {x y : BitVec 4} {s s' : State} (h : execDriveTypeByte x y s = .next s') :
    s'.cfg = s.cfg
      ∧ (s'.env.trace = s.env.trace ∨ (∃ e, s'.env.trace = e :: s.env.trace)
        ∨ ∃ e f, s'.env.trace = e :: f :: s.env.trace) := by
  cases h
  obtain ⟨hcfg, -, htrace⟩ := detectDrive_effect .d0 x s
  obtain ⟨hcfg', -, htrace'⟩ := detectDrive_effect .d1 y (detectDrive .d0 x s)
  refine ⟨hcfg'.trans hcfg, ?_⟩
  obtain hq | ⟨f, hf⟩ := htrace <;> obtain hq' | ⟨e, he⟩ := htrace'
  · exact .inl (hq'.trans hq)
  · exact .inr (.inl ⟨e, by rw [he, hq]⟩)
  · exact .inr (.inl ⟨f, by rw [hq', hf]⟩)
  · exact .inr (.inr ⟨e, f, by rw [he, hf]⟩)

theorem exec_atMostOneEvent {i : Instr} (hi : ∀ x y, i ≠ .driveTypeByte x y) {s s' : State}
    (h : exec i s = .next s') : AtMostOneEvent s s' := by
  cases i with
  | hostOpen | hostClose | hostRead | hostWrite | hostSeek | illegalOp5 | illegalOp6 | illegalOp7
  | illegalRsv1 | illegalRsv2 | illegalRsv3 => cases h; exact accept_atMostOneEvent ..
  | fdcSenseInterruptStatus | fdcRecalibrate | fdcSeek | fdcRead | fdcSisResult | fdcReadResult =>
    cases h; exact .silent
  | dorDisable | dorEnable | dorRun0 | dorRun1 | dorStop0 | dorStop1 | rateDefault => cases h; exact .event
  | msrSendReady | msrRecvReady => exact takeStatus_atMostOneEvent h
  | st0Success => exact execSt0Success_atMostOneEvent h
  | driveTypeByte x y => exact absurd rfl (hi x y)
  | seqIdle => exact execSeqIdle_atMostOneEvent h
  | seqInit => exact .of_advance (execSeqInit_advances h)
  | seqOpen => exact .of_advance (execSeqOpen_advances h)
  | seqClose => exact .of_advance (execSeqClose_advances h)
  | seqRead => exact .of_advance (execSeqRead_advances h)
  | seqWrite => exact .of_advance (execSeqWrite_advances h)
  | seqSeek => exact .of_advance (execSeqSeek_advances h)
  | seqReadblock => exact .of_advance (execSeqReadblock_advances h)
  | seqCopyblk => exact .of_advance (execSeqCopyblk_advances h)
  | seqXlate => exact execSeqXlate_atMostOneEvent h
  | seqInrange => cases h; exact .silent
  | seqMotoron => exact .of_advance (execSeqMotoron_advances h)
  | seqMotoroff => exact .of_advance (execSeqMotoroff_advances h)
  | seqRecalibrate => exact .of_advance (execSeqRecalibrate_advances h)
  | seqSeekcyl => exact .of_advance (execSeqSeekcyl_advances h)
  | seqResetseq => exact .of_advance (execSeqResetseq_advances h)
  | seqWait => exact .of_advance (execSeqWait_advances h)
  | seqIrq => cases h; exact .silent
  | seqSendframe => exact .of_advance (execSeqSendframe_advances h)
  | seqGetframe => exact .of_advance (execSeqGetframe_advances h)
  | seqSendbyte => exact .of_advance (execSeqSendbyte_advances h)
  | seqGetbyte => exact .of_advance (execSeqGetbyte_advances h)
  | seqPortWr | seqPortRd | seqPaceRd | seqDmaProg | seqCfgRd | seqMemRd | seqMemWr => cases h; exact .event
  | seqIllegal => exact .of_advance (execSeqIllegal_advances h)

/-- Settles O51: an instruction is the two-drive detection, or makes at most one event. -/
theorem instructionMakesAtMostOneEvent : Obligations.InstructionMakesAtMostOneEvent := by
  intro i s s' h
  by_cases hi : ∃ x y, i = .driveTypeByte x y
  · obtain ⟨x, y, rfl⟩ := hi
    obtain ⟨hcfg, htrace⟩ := execDriveTypeByte_effect h
    exact ⟨hcfg, htrace.imp_right fun hmore => hmore.imp_right fun htwo => ⟨⟨x, y, rfl⟩, htwo⟩⟩
  · obtain ⟨hcfg, htrace⟩ := exec_atMostOneEvent (fun x y hxy => hi ⟨x, y, hxy⟩) h
    exact ⟨hcfg, htrace.imp_right .inl⟩

end Sys2Proof.Machine
end

section
/-! PROOF. What one instruction does to the registers that outlast a sequence: each register has its writers. -/

namespace Sys2Proof.Machine

/-- The instructions that can accept a command (46 R170): the host commands, and IDLE. -/
def Accepts (i : Instr) : Prop := (encode i).1 = .host ∨ i = .seqIdle

/-- The instructions that can detect a drive (47 R190): INIT, and a type byte issued by hand. -/
def Detects (i : Instr) : Prop := i = .seqInit ∨ ∃ x y, i = .driveTypeByte x y

/-- What an instruction can make of the record of drive `d` (10 R18), each change with its writer and the
place it is made at. -/
inductive DriveChange (i : Instr) (s : State) (d : DriveId) : Drive → Prop
  | unchanged : DriveChange i s d (s.drv d)
  | sought (below : List Frame) (x : Byte) :
      i = .seqSeekcyl → s.reg.spc = .seekcyl .waiting d x :: below → (∀ c, s.reg.ret ≠ .fail c) →
      DriveChange i s d { s.drv d with curCyl := (s.drv d).rcyl }
  | rehomed (below : List Frame) :
      i = .seqRecalibrate → s.reg.spc = .recalibrate .waiting d :: below → (∀ c, s.reg.ret ≠ .fail c) →
      DriveChange i s d { s.drv d with curCyl := (s.drv d).rcyl }
  | opened (below : List Frame) : i = .seqOpen → s.reg.spc = .opOpen .start :: below →
      DriveChange i s d { s.drv d with lock := true }
  | closed (below : List Frame) : i = .seqClose → s.reg.spc = .opClose .stopping :: below →
      DriveChange i s d { s.drv d with cursor := 0, lock := false }
  | advanced : i = .seqRead → (∀ c, s.reg.ret ≠ .fail c) →
      DriveChange i s d { s.drv d with cursor := (s.drv d).cursor + 1 }
  | positioned : i = .seqSeek → DriveChange i s d { s.drv d with cursor := s.reg.b >>> 9 }
  | constructed (x : BitVec 4) : Detects i → detected x = true →
      DriveChange i s d { s.drv d with geom := x.truncate 3, lock := false, present := true }
  | fetched (below : List Frame) (x y : Byte) : i = .seqWait → s.reg.spc = .wait .getting d :: below →
      DriveChange i s d { s.drv d with st0 := x, rcyl := y }
  | issued (x y : Byte) : (∃ code cyl, i = .fdcSisResult code cyl) ∨ (∃ others, i = .st0Success others) →
      DriveChange i s d { s.drv d with st0 := x, rcyl := y }

/-- What instruction `i` can change between `s` and `s'`, apart from the working registers of the
sequences and the stack. Where a proof gives no value for a field, it proves that nothing of it changes. -/
structure Effect (i : Instr) (s s' : State) : Prop where
  latch : (s'.reg.ctl = s.reg.ctl ∧ s'.reg.a = s.reg.a ∧ s'.reg.b = s.reg.b) ∨ Accepts i := by
    exact .inl ⟨by simp, by simp, by simp⟩
  err : s'.reg.err = s.reg.err ∨ (Accepts i ∧ s'.reg.err = 0) ∨ ∃ c, s'.reg.err = firstCause s.reg.err c := by
    exact .inl (by simp)
  signal : s'.reg.cs = s.reg.cs ∨ (i = .seqIrq ∧ s.reg.ie = true ∧ s'.reg.cs = true)
      ∨ (i = .seqWait ∧ s'.reg.cs = false) := by
    exact .inl (by simp)
  enable : s'.reg.ie = s.reg.ie ∨ (i = .seqInit ∧ s'.reg.ie = true) := by exact .inl (by simp)
  shadow : (s'.reg.dorshPrimary = s.reg.dorshPrimary ∧ s'.reg.dorshSecondary = s.reg.dorshSecondary)
      ∨ ∃ a v, s'.env.trace = .ioWrite a v :: s.env.trace
        ∧ ∀ g, s'.dorsh g = if a = groupBase s.cfg g + s.cfg.offDor then v else s.dorsh g := by
    exact .inl ⟨by simp, by simp⟩
  drives : (s'.reg.drv0 = s.reg.drv0 ∧ s'.reg.drv1 = s.reg.drv1)
      ∨ ∀ d, DriveChange i s d (s'.drv d) := by
    exact .inl ⟨by simp, by simp⟩
  memory : s'.env.sys = s.env.sys
      ∨ ∃ a v, s'.env.trace = .memWrite a v :: s.env.trace ∧ (i = .seqCopyblk ∨ i = .seqMemWr a v)
        ∧ s'.env.sys = memSet s.env.sys a.toNat v := by
    exact .inl (by simp)
  issue : s'.env.issue = s.env.issue := by simp

/-- An update of one drive's record changes that drive alone. -/
theorem drives_of_setDrv {i : Instr} {s s' : State} (d : DriveId) {x : Drive} (hx : DriveChange i s d x)
    (drv0 : s'.reg.drv0 = (s.reg.setDrv d x).drv0 := by simp)
    (drv1 : s'.reg.drv1 = (s.reg.setDrv d x).drv1 := by simp) : ∀ e, DriveChange i s e (s'.drv e) := by
  intro e
  have hset : s'.drv e = (s.setDrv d x).drv e :=
    State.drv_congr _ _ e (by simpa using drv0) (by simpa using drv1)
  rw [hset]
  by_cases he : e = d
  · subst he; simpa using hx
  · rw [State.drv_setDrv_other _ _ _ _ he]; exact .unchanged

/-- A change of the stack is no part of an effect. -/
theorem Effect.withSpc {i : Instr} {s u : State} (h : Effect i s u) (l : List Frame) : Effect i s (u.withSpc l) :=
  ⟨h.latch, h.err, h.signal, h.enable, h.shadow, h.drives, h.memory, h.issue⟩

theorem Effect.driveChange {i : Instr} {s s' : State} (h : Effect i s s') (d : DriveId) :
    DriveChange i s d (s'.drv d) := by
  obtain ⟨h0, h1⟩ | hd := h.drives
  · rw [State.drv_congr s s' d h0 h1]; exact .unchanged
  · exact hd d

/-- The drive that a frame keeps in use (10 R21). -/
def Frame.uses : Frame → Option DriveId
  | .readblock _ d _ _ | .opOpen (.resetting d) => some d
  | _ => none

theorem frameOk_eq_uses (s : State) (f : Frame) : frameOk s f = f.uses.all s.valid := by
  cases f with
  | opOpen p => cases p <;> rfl
  | _ => rfl

/-- What an instruction of the sequence of `f`, with `below` under it, makes of the stack: it ends the
command or INIT, goes on in its own frame, calls a sequence of the call table, or returns. -/
inductive StackMove (f : Frame) (below : List Frame) (s s' : State) : Prop
  | ends (spc : s'.reg.spc = [.idle])
  | goOn (f' : Frame) (spc : s'.reg.spc = f' :: below) (same : f'.started = f.started)
      (uses : f'.uses = f.uses)
  | call (g f' : Frame) (spc : s'.reg.spc = g :: f' :: below) (same : f'.started = f.started)
      (ok : callOk s.handle g f' = true) (callee : frameOk s' g = true)
      (uses : f'.uses = f.uses ∨ frameOk s' f' = true)
  | ret (spc : s'.reg.spc = below) (ne : below ≠ [])

/-- What the sequence of a frame `f` on top of `below` answers: a next state, or a stop for one of two
reasons, no caller to return to and a geometry the translator has no value for. -/
inductive Behaves (f : Frame) (below : List Frame) (s : State) : Result → Prop
  | next {s' : State} : Effect f.instr s s' → StackMove f below s s' → Behaves f below s (.next s')
  | noCaller : f.mayReturn = true → below = [] → Behaves f below s (.fault .noCaller)
  | xlateDomain {d : DriveId} {b : BitVec 32} {buf : Addr} : f = .readblock .start d b buf →
      (s.geomOf d).heads = 0 ∨ (s.geomOf d).sectors = 0 → Behaves f below s (.fault .xlateDomain)

namespace Behaves

variable {f f' g : Frame} {below : List Frame} {s s' u : State} {o : SeqOutcome}

theorem ends (eff : Effect f.instr s s') (spc : s'.reg.spc = [.idle] := by simp) : Behaves f below s (.next s') :=
  .next eff (.ends spc)

theorem goOn (eff : Effect f.instr s s') (spc : s'.reg.spc = f' :: below := by rfl)
    (same : f'.started = f.started := by rfl) (uses : f'.uses = f.uses := by rfl) :
    Behaves f below s (.next s') :=
  .next eff (.goOn f' spc same uses)

theorem call (eff : Effect f.instr s s') (spc : s'.reg.spc = g :: f' :: below := by rfl)
    (same : f'.started = f.started := by rfl) (ok : callOk s.handle g f' = true := by simp [callOk])
    (callee : frameOk s' g = true := by rfl) (uses : f'.uses = f.uses ∨ frameOk s' f' = true := by exact .inl rfl) :
    Behaves f below s (.next s') :=
  .next eff (.call g f' spc same ok callee uses)

theorem returns (eff : Effect f.instr s (u.turned { u.reg with spc := below, ret := o }))
    (may : f.mayReturn = true := by rfl) : Behaves f below s (returnTo below o u) := by
  rcases returnTo_cases below o u with ⟨hb, h⟩ | ⟨hb, h⟩ <;> rw [h]
  · exact .noCaller may hb
  · exact .next eff (.ret rfl hb)

end Behaves

section Sequences

variable {below : List Frame} {s : State}

-- Detection and INIT (47 R190)

/-- Detection of a drive constructs its record or changes nothing. -/
theorem detectDrive_changes {i : Instr} (hi : Detects i) (d : DriveId) (x : BitVec 4) (s : State) :
    Effect i s (detectDrive d x s) := by
  rcases detectDrive_cases d x s with ⟨hx, h⟩ | ⟨-, h⟩ <;> rw [h]
  · exact { drives := .inr (drives_of_setDrv d (.constructed x hi hx)) }
  · exact {}

theorem execSeqInit_behaves {p : InitPlace} (hs : s.reg.spc = .init p :: below) :
    Behaves (.init p) below s (execSeqInit s) := by
  cases p <;> simp only [execSeqInit, hs]
  case start => exact .goOn {}
  case types => exact .goOn ((detectDrive_changes (.inl rfl) _ _ s).withSpc _)
  case second => exact .goOn ((detectDrive_changes (.inl rfl) _ _ s).withSpc _)
  case install => exact .ends { enable := .inr ⟨rfl, rfl⟩ }

-- The host operations (46 R172 to R177)

theorem execSeqOpen_behaves {p : OpenPlace} (hs : s.reg.spc = .opOpen p :: below) :
    Behaves (.opOpen p) below s (execSeqOpen s) := by
  cases p <;> simp only [execSeqOpen, hs]
  case start =>
    split
    next => exact .ends { err := .inr (.inr ⟨_, rfl⟩) }
    next d hmatch =>
      obtain ⟨hpresent, -⟩ := openMatch_some hmatch
      split
      · exact .ends { err := .inr (.inr ⟨_, rfl⟩) }
      · refine .call { drives := .inr (drives_of_setDrv d (.opened below rfl hs)) } (uses := .inr ?_)
        show (s.setDrv d { s.drv d with lock := true }).valid d = true
        simp [State.valid, hpresent]
  case resetting => exact .ends {}

theorem execSeqClose_behaves {p : ClosePlace} (hs : s.reg.spc = .opClose p :: below) :
    Behaves (.opClose p) below s (execSeqClose s) := by
  cases p <;> simp only [execSeqClose, hs]
  case start =>
    split
    · exact .call {}
    · exact .ends { err := .inr (.inr ⟨_, rfl⟩) }
  case stopping => exact .ends { drives := .inr (drives_of_setDrv s.handle (.closed below rfl hs)) }

theorem execSeqRead_behaves {p : ReadPlace} (hs : s.reg.spc = .opRead p :: below) :
    Behaves (.opRead p) below s (execSeqRead s) := by
  cases p <;> simp only [execSeqRead, hs]
  case start =>
    split
    next => exact .ends { err := .inr (.inr ⟨_, rfl⟩) }
    next hvalid =>
      split
      · exact .ends { err := .inr (.inr ⟨_, rfl⟩) }
      · split
        · exact .ends { err := .inr (.inr ⟨_, rfl⟩) }
        · refine .call {} (callee := ?_)
          show s.valid s.handle = true
          simpa using hvalid
  case reading =>
    split
    next => exact .ends {}
    next hret => exact .ends { drives := .inr (drives_of_setDrv s.handle (.advanced rfl hret)) }

theorem execSeqWrite_behaves (hs : s.reg.spc = .opWrite :: below) : Behaves .opWrite below s (execSeqWrite s) := by
  simp only [execSeqWrite, hs]
  exact .ends { err := .inr (.inr ⟨_, rfl⟩) }

/-- A byte offset divided by the block size is the offset without its nine low bits (46 R176). -/
theorem ofNat_div_blockSize (b : BitVec 32) : BitVec.ofNat 32 (b.toNat / blockSize) = b >>> 9 := by
  apply BitVec.eq_of_toNat_eq
  simp only [blockSize, BitVec.toNat_ofNat, BitVec.toNat_ushiftRight, Nat.shiftRight_eq_div_pow]
  omega

theorem execSeqSeek_behaves (hs : s.reg.spc = .opSeek :: below) : Behaves .opSeek below s (execSeqSeek s) := by
  simp only [execSeqSeek, hs, ofNat_div_blockSize]
  split
  · exact .ends { drives := .inr (drives_of_setDrv s.handle (.positioned rfl)) }
  · exact .ends { err := .inr (.inr ⟨_, rfl⟩) }

theorem execSeqIllegal_behaves (hs : s.reg.spc = .opIllegal :: below) :
    Behaves .opIllegal below s (execSeqIllegal s) := by
  simp only [execSeqIllegal, hs]
  exact .ends { err := .inr (.inr ⟨_, rfl⟩) }

-- The block I/O engine (45 R150, R157)

theorem execSeqReadblock_behaves {p : ReadblockPlace} {d : DriveId} {b : BitVec 32} {buf : Addr}
    (hs : s.reg.spc = .readblock p d b buf :: below) :
    Behaves (.readblock p d b buf) below s (execSeqReadblock s) := by
  cases p <;> simp only [execSeqReadblock, hs]
  case start =>
    rcases xlate_cases b.toNat (s.geomOf d).heads (s.geomOf d).sectors s with ⟨hzero, hx⟩ | ⟨-, -, hx⟩ <;> rw [hx]
    · exact .xlateDomain rfl hzero
    · exact .call {}
  case spinning => exact .call {}
  case seeking =>
    split
    · exact .call {}
    · exact .goOn {}
  case programmed => exact .call {}
  case sending => split <;> exact .call {}
  case waiting => split <;> exact .call {}
  case draining =>
    split
    · exact .call {}
    · rcases stepEight_cases d b buf below s with ⟨-, he⟩ | ⟨-, he⟩ <;> rw [he]
      · exact .call {}
      · exact .call { err := .inr (.inr ⟨_, rfl⟩) }
  case quieting => exact .call {}
  case copying => exact .returns {}
  case rehoming =>
    split
    · exact .call {}
    · exact .returns {}
  case seekAborting => exact .returns {}
  case resetting => exact .returns {}

theorem execSeqCopyblk_behaves {p : CopyPlace} {buf : Addr} (hs : s.reg.spc = .copyblk p buf :: below) :
    Behaves (.copyblk p buf) below s (execSeqCopyblk s) := by
  cases p <;> simp only [execSeqCopyblk, hs]
  case start => exact .goOn {}
  case loaded => exact .goOn { memory := .inr ⟨_, _, rfl, .inl rfl, rfl⟩ }
  case stored =>
    split
    · exact .goOn {}
    · exact .returns {}

-- The drive state machine (44 R130 to R134)

theorem execSeqMotoron_behaves {p : LeafPlace} {d : DriveId} (hs : s.reg.spc = .motoron p d :: below) :
    Behaves (.motoron p d) below s (execSeqMotoron s) := by
  cases p <;> simp only [execSeqMotoron, hs]
  case start => exact .goOn { shadow := .inr ⟨_, _, rfl, s.dorsh_portWrite _ _⟩ }
  case done => exact .returns {}

theorem execSeqMotoroff_behaves {p : LeafPlace} {d : DriveId} (hs : s.reg.spc = .motoroff p d :: below) :
    Behaves (.motoroff p d) below s (execSeqMotoroff s) := by
  cases p <;> simp only [execSeqMotoroff, hs]
  case start => exact .goOn { shadow := .inr ⟨_, _, rfl, s.dorsh_portWrite _ _⟩ }
  case done => exact .returns {}

theorem execSeqRecalibrate_behaves {p : RecalPlace} {d : DriveId} (hs : s.reg.spc = .recalibrate p d :: below) :
    Behaves (.recalibrate p d) below s (execSeqRecalibrate s) := by
  cases p <;> simp only [execSeqRecalibrate, hs]
  case start => exact .call {}
  case spinning => exact .call {}
  case sending => split <;> exact .call {}
  case waiting =>
    split
    next => exact .call {}
    next hret => exact .call { drives := .inr (drives_of_setDrv d (.rehomed below rfl hs hret)) }
  case stopping => exact .returns {}

theorem execSeqSeekcyl_behaves {p : SeekcylPlace} {d : DriveId} {x : Byte}
    (hs : s.reg.spc = .seekcyl p d x :: below) : Behaves (.seekcyl p d x) below s (execSeqSeekcyl s) := by
  cases p <;> simp only [execSeqSeekcyl, hs]
  case start =>
    split
    · exact .returns {}
    · exact .call {}
  case sending =>
    split
    · exact .returns {}
    · exact .call {}
  case waiting =>
    split
    next => exact .returns {}
    next hret =>
      have hsought := DriveChange.sought below x rfl hs hret
      split
      · exact .returns
          { err := .inr (.inr ⟨.seekVerify, by simp⟩)
            drives := .inr (drives_of_setDrv d hsought) }
      · exact .returns { drives := .inr (drives_of_setDrv d hsought) }

theorem execSeqResetseq_behaves {p : ResetPlace} {d : DriveId} (hs : s.reg.spc = .resetseq p d :: below) :
    Behaves (.resetseq p d) below s (execSeqResetseq s) := by
  cases p <;> simp only [execSeqResetseq, hs]
  case start => exact .goOn { shadow := .inr ⟨_, _, rfl, s.dorsh_portWrite _ _⟩ }
  case enable => exact .goOn { shadow := .inr ⟨_, _, rfl, s.dorsh_portWrite _ _⟩ }
  case selfTest => exact .call {}
  case testing => exact .goOn { shadow := .inr ⟨_, _, rfl, s.dorsh_portWrite _ _⟩ }
  case rated => exact .call {}
  case homing => split <;> exact .returns {}

-- WAIT (42 R112)

/-- A poll of WAIT consumes the signal it sees, and nothing else outlasts it. -/
theorem waitPoll_behaves (p : WaitPlace) (d : DriveId) (n : Nat) :
    Behaves (.wait p d) below s (.next (waitPoll d below (s.turned { s.reg with wcnt := n }))) := by
  rcases waitPoll_cases d below (s.turned { s.reg with wcnt := n }) with ⟨-, h⟩ | ⟨-, h⟩ <;> rw [h]
  · exact .goOn { signal := .inr (.inr ⟨rfl, rfl⟩) }
  · exact .goOn {}

theorem execSeqWait_behaves {p : WaitPlace} {d : DriveId} (hs : s.reg.spc = .wait p d :: below) :
    Behaves (.wait p d) below s (execSeqWait s) := by
  cases p <;> simp only [execSeqWait, hs]
  case start => exact waitPoll_behaves _ _ 0
  case missed =>
    rcases waitMissed_cases d below s with ⟨-, h⟩ | ⟨_, -, -, h⟩ | ⟨-, h⟩ <;> rw [h]
    · exact waitPoll_behaves _ _ s.reg.wcnt
    · exact waitPoll_behaves _ _ _
    · exact .returns { err := .inr (.inr ⟨_, rfl⟩) }
  case signalled => exact .call {}
  case sending =>
    split
    · exact .returns { err := .inr (.inr ⟨_, rfl⟩) }
    · exact .call {}
  case getting =>
    split
    · exact .returns { err := .inr (.inr ⟨_, rfl⟩) }
    · exact .returns { drives := .inr (drives_of_setDrv d (.fetched below s.reg.rf[0] s.reg.rf[1] rfl hs)) }

-- The byte protocol (41 R100 to R103)

theorem execSeqSendframe_behaves {p : FramePlace} {d : DriveId} {n : SendLen}
    (hs : s.reg.spc = .sendframe p d n :: below) : Behaves (.sendframe p d n) below s (execSeqSendframe s) := by
  cases p <;> simp only [execSeqSendframe, hs]
  case start => rw [sendLoop_first rfl]; exact .call {}
  case moving =>
    split
    · exact .returns {}
    · rcases sendLoop_cases d n below _ with ⟨-, h⟩ | ⟨-, h⟩ <;> rw [h]
      · exact .call {}
      · exact .returns {}

theorem execSeqGetframe_behaves {p : FramePlace} {d : DriveId} {n : GetLen}
    (hs : s.reg.spc = .getframe p d n :: below) : Behaves (.getframe p d n) below s (execSeqGetframe s) := by
  cases p <;> simp only [execSeqGetframe, hs]
  case start => rw [getLoop_first rfl]; exact .call {}
  case moving =>
    split
    · exact .returns {}
    · rcases getLoop_cases d n below _ with ⟨-, h⟩ | ⟨-, h⟩ <;> rw [h]
      · exact .call {}
      · exact .returns {}

/-- SENDBYTE's test goes on in SENDBYTE: a port write, or a discard read (41 R100). -/
theorem sendTest_goesOn (i : Instr) (d : DriveId) (v m : Byte) :
    Effect i s (sendTest d v below (s.turned { s.reg with msrv := m }))
      ∧ ∃ p, (sendTest d v below (s.turned { s.reg with msrv := m })).reg.spc = .sendbyte p d v :: below := by
  rcases sendTest_cases d v below (s.turned { s.reg with msrv := m }) with ⟨-, h⟩ | ⟨-, h⟩ <;> rw [h]
  · exact ⟨{ shadow := .inr ⟨_, _, rfl, s.dorsh_portWrite _ _⟩ }, _, rfl⟩
  · exact ⟨{}, _, rfl⟩

/-- GETBYTE's test goes on in GETBYTE, after a port read (41 R101). -/
theorem getTest_goesOn (i : Instr) (d : DriveId) (m : Byte) :
    Effect i s (getTest d below (s.turned { s.reg with msrv := m }))
      ∧ ∃ p, (getTest d below (s.turned { s.reg with msrv := m })).reg.spc = .getbyte p d :: below := by
  rcases getTest_cases d below (s.turned { s.reg with msrv := m }) with ⟨-, h⟩ | ⟨-, h⟩ <;> rw [h]
  · exact ⟨{}, _, rfl⟩
  · exact ⟨{}, _, rfl⟩

theorem execSeqSendbyte_behaves {p : BytePlace} {d : DriveId} {v : Byte}
    (hs : s.reg.spc = .sendbyte p d v :: below) : Behaves (.sendbyte p d v) below s (execSeqSendbyte s) := by
  cases p <;> simp only [execSeqSendbyte, hs]
  case start => exact .goOn {}
  case tested =>
    obtain ⟨heff, _, hspc⟩ := sendTest_goesOn (s := s) (below := below) .seqSendbyte d v s.reg.msrv
    exact .goOn heff hspc
  case paced =>
    split
    · exact .returns { err := .inr (.inr ⟨_, rfl⟩) }
    · exact .goOn {}
  case moved => exact .returns {}

theorem execSeqGetbyte_behaves {p : BytePlace} {d : DriveId}
    (hs : s.reg.spc = .getbyte p d :: below) : Behaves (.getbyte p d) below s (execSeqGetbyte s) := by
  cases p <;> simp only [execSeqGetbyte, hs]
  case start => exact .goOn {}
  case tested =>
    obtain ⟨heff, _, hspc⟩ := getTest_goesOn (s := s) (below := below) .seqGetbyte d s.reg.msrv
    exact .goOn heff hspc
  case paced =>
    split
    · exact .returns { err := .inr (.inr ⟨_, rfl⟩) }
    · exact .goOn {}
  case moved => exact .returns {}

/-- Whatever busy frame is on top, its sequence behaves. -/
theorem exec_frame_behaves {f : Frame} (hs : s.reg.spc = f :: below) (hf : f ≠ .idle) :
    Behaves f below s (exec f.instr s) := by
  cases f with
  | idle => exact absurd rfl hf
  | init => exact execSeqInit_behaves hs
  | opOpen => exact execSeqOpen_behaves hs
  | opClose => exact execSeqClose_behaves hs
  | opRead => exact execSeqRead_behaves hs
  | opWrite => exact execSeqWrite_behaves hs
  | opSeek => exact execSeqSeek_behaves hs
  | opIllegal => exact execSeqIllegal_behaves hs
  | readblock => exact execSeqReadblock_behaves hs
  | copyblk => exact execSeqCopyblk_behaves hs
  | motoron => exact execSeqMotoron_behaves hs
  | motoroff => exact execSeqMotoroff_behaves hs
  | recalibrate => exact execSeqRecalibrate_behaves hs
  | seekcyl => exact execSeqSeekcyl_behaves hs
  | resetseq => exact execSeqResetseq_behaves hs
  | wait => exact execSeqWait_behaves hs
  | sendframe => exact execSeqSendframe_behaves hs
  | getframe => exact execSeqGetframe_behaves hs
  | sendbyte => exact execSeqSendbyte_behaves hs
  | getbyte => exact execSeqGetbyte_behaves hs

end Sequences

end Sys2Proof.Machine
end

section
/-! PROOF. The effect of every instruction, and from it who writes each register (10 R11 to R22). -/

namespace Sys2Proof.Machine

variable {i : Instr} {s s' : State}

-- Accepts (46 R170)

/-- An accept latches the command and clears `ERR`, or leaves the command at the port. -/
theorem accept_effect (hi : Accepts i) (ctl : Byte) (a : BitVec 64) (b : BitVec 32) (f : Frame)
    (c : Option HostCmd) : Effect i s (accept ctl a b f { s with env := { s.env with cmd := c } }) := by
  rcases accept_cases ctl a b f { s with env := { s.env with cmd := c } } with ⟨-, h⟩ | ⟨-, h⟩ <;> rw [h]
  · exact { latch := .inr hi, err := .inr (.inl ⟨hi, rfl⟩) }
  · exact {}

/-- The first frame of a host operation: nobody calls it, and no drive is in use yet. -/
def OperationStart (f : Frame) : Prop := bottomOk f = true ∧ f.uses = none

/-- Every host command row is an accept with the first frame of its operation (46 R170, R171). -/
theorem exec_host (hi : (encode i).1 = .host) (s : State) :
    ∃ ctl a b f, OperationStart f ∧ exec i s = .next (accept ctl a b f s) := by
  cases i with
  | hostOpen | hostClose | hostRead | hostWrite | hostSeek | illegalOp5 | illegalOp6 | illegalOp7
  | illegalRsv1 | illegalRsv2 | illegalRsv3 => exact ⟨_, _, _, _, ⟨rfl, rfl⟩, rfl⟩
  | _ => cases hi

theorem exec_host_effect (hi : (encode i).1 = .host) (h : exec i s = .next s') : Effect i s s' := by
  obtain ⟨ctl, a, b, f, -, hx⟩ := exec_host hi s
  rw [hx] at h
  cases h
  exact accept_effect (.inl hi) ctl a b f s.env.cmd

theorem execSeqIdle_effect (h : execSeqIdle s = .next s') : Effect .seqIdle s s' := by
  unfold execSeqIdle at h
  split at h
  · split at h <;> cases h
    · exact {}
    · exact accept_effect (.inr rfl) _ _ _ _ none
  · cases h

-- The sequences with frames

/-- A sequence answers a next state only with a frame of its own on top (10 R14): each meaning matches the
places of its frame and ends in the fault `notInProgress`. -/
theorem exec_frame_top {g : Frame} (h : exec g.instr s = .next s') :
    ∃ f below, s.reg.spc = f :: below ∧ f.instr = g.instr := by
  cases g <;>
    simp only [Frame.instr, exec, execSeqIdle, execSeqInit, execSeqOpen, execSeqClose, execSeqRead, execSeqWrite,
      execSeqSeek, execSeqIllegal, execSeqReadblock, execSeqCopyblk, execSeqMotoron, execSeqMotoroff,
      execSeqRecalibrate, execSeqSeekcyl, execSeqResetseq, execSeqWait, execSeqSendframe, execSeqGetframe,
      execSeqSendbyte, execSeqGetbyte] at h <;>
    split at h
  any_goals contradiction
  all_goals
    refine ⟨_, _, by assumption, ?_⟩
    rfl

theorem exec_frame_effect {g : Frame} (hg : g.instr ≠ .seqIdle) (h : exec g.instr s = .next s') :
    Effect g.instr s s' := by
  obtain ⟨f, below, hs, hf⟩ := exec_frame_top h
  have hb := exec_frame_behaves hs fun hidle => hg (by rw [← hf, hidle]; rfl)
  rw [hf, h] at hb
  cases hb with
  | next heff _ => rwa [hf] at heff

-- The rows that push no frame of their own

theorem execSeqXlate_effect {b : BitVec 32} {heads sectors : Byte}
    (h : execSeqXlate b heads sectors s = .next s') : Effect (.seqXlate b heads sectors) s s' := by
  unfold execSeqXlate at h
  rcases xlate_cases b.toNat heads.toNat sectors.toNat s with ⟨-, hx⟩ | ⟨-, -, hx⟩ <;> rw [hx] at h <;> cases h
  exact {}

theorem execSeqIrq_effect (h : execSeqIrq s = .next s') : Effect .seqIrq s s' := by
  unfold execSeqIrq at h
  cases h
  cases hie : s.reg.ie
  · exact {}
  · exact { signal := .inr (.inl ⟨rfl, hie, by simp⟩) }

theorem execFdcSisResult_effect {x y : Byte} (h : execFdcSisResult x y s = .next s') :
    Effect (.fdcSisResult x y) s s' := by
  unfold execFdcSisResult at h
  cases h
  generalize s.currentDrive = d
  have hissued := DriveChange.issued (s := s) (d := d) x y (.inl ⟨x, y, rfl⟩)
  exact { drives := .inr (drives_of_setDrv d hissued (by cases d <;> simp) (by cases d <;> simp)) }

theorem takeStatus_effect {v : Byte} (h : takeStatus v s = .next s') : Effect i s s' := by
  unfold takeStatus at h
  dsimp only at h
  split at h <;> cases h
  · exact (sendTest_goesOn ..).1
  · exact (getTest_goesOn ..).1

theorem execSt0Success_effect {x : BitVec 6} (h : execSt0Success x s = .next s') :
    Effect (.st0Success x) s s' := by
  unfold execSt0Success at h
  split at h
  next d b buf below hs =>
    split at h <;> cases h
    have hissued := DriveChange.issued (s := s) (d := d) ((0 : BitVec 2) ++ x) (s.drv d).rcyl (.inr ⟨x, rfl⟩)
    rcases stepEight_cases d b buf below (s.setDrv d { s.drv d with st0 := (0 : BitVec 2) ++ x }) with
      ⟨-, he⟩ | ⟨-, he⟩ <;> rw [he]
    · exact { drives := .inr (drives_of_setDrv d hissued) }
    · exact { err := .inr (.inr ⟨_, by simp; rfl⟩), drives := .inr (drives_of_setDrv d hissued) }
  next => cases h

/-- The detection of both drives: each constructs its own record, or leaves it. -/
theorem execDriveTypeByte_changes {x y : BitVec 4} (h : execDriveTypeByte x y s = .next s') :
    Effect (.driveTypeByte x y) s s' := by
  unfold execDriveTypeByte at h
  cases h
  have hd : Detects (.driveTypeByte x y) := .inr ⟨x, y, rfl⟩
  rcases detectDrive_cases .d0 x s with ⟨hx, h0⟩ | ⟨-, h0⟩ <;> rw [h0]
  · rcases detectDrive_cases .d1 y _ with ⟨hy, h1⟩ | ⟨-, h1⟩ <;> rw [h1]
    · refine { drives := .inr fun e => ?_ }
      cases e
      · exact .constructed x hd hx
      · exact .constructed y hd hy
    · exact { drives := .inr (drives_of_setDrv .d0 (.constructed x hd hx)) }
  · exact detectDrive_changes hd .d1 y s

/-- Every instruction changes the registers that outlast a sequence as `Effect` says. -/
theorem exec_effect (h : exec i s = .next s') : Effect i s s' := by
  cases i with
  | hostOpen | hostClose | hostRead | hostWrite | hostSeek | illegalOp5 | illegalOp6 | illegalOp7
  | illegalRsv1 | illegalRsv2 | illegalRsv3 => exact exec_host_effect rfl h
  | fdcSenseInterruptStatus | fdcRecalibrate | fdcSeek | fdcRead | fdcReadResult => cases h; exact {}
  | fdcSisResult => exact execFdcSisResult_effect h
  | dorDisable | dorEnable | dorRun0 | dorRun1 | dorStop0 | dorStop1 | rateDefault | seqPortWr =>
    cases h; exact { shadow := .inr ⟨_, _, rfl, s.dorsh_portWrite _ _⟩ }
  | msrSendReady | msrRecvReady => exact takeStatus_effect h
  | st0Success => exact execSt0Success_effect h
  | driveTypeByte => exact execDriveTypeByte_changes h
  | seqIdle => exact execSeqIdle_effect h
  | seqInit => exact exec_frame_effect (g := .init .start) nofun h
  | seqOpen => exact exec_frame_effect (g := .opOpen .start) nofun h
  | seqClose => exact exec_frame_effect (g := .opClose .start) nofun h
  | seqRead => exact exec_frame_effect (g := .opRead .start) nofun h
  | seqWrite => exact exec_frame_effect (g := .opWrite) nofun h
  | seqSeek => exact exec_frame_effect (g := .opSeek) nofun h
  | seqIllegal => exact exec_frame_effect (g := .opIllegal) nofun h
  | seqReadblock => exact exec_frame_effect (g := .readblock .start .d0 0 0) nofun h
  | seqCopyblk => exact exec_frame_effect (g := .copyblk .start 0) nofun h
  | seqMotoron => exact exec_frame_effect (g := .motoron .start .d0) nofun h
  | seqMotoroff => exact exec_frame_effect (g := .motoroff .start .d0) nofun h
  | seqRecalibrate => exact exec_frame_effect (g := .recalibrate .start .d0) nofun h
  | seqSeekcyl => exact exec_frame_effect (g := .seekcyl .start .d0 0) nofun h
  | seqResetseq => exact exec_frame_effect (g := .resetseq .start .d0) nofun h
  | seqWait => exact exec_frame_effect (g := .wait .start .d0) nofun h
  | seqSendframe => exact exec_frame_effect (g := .sendframe .start .d0 .one) nofun h
  | seqGetframe => exact exec_frame_effect (g := .getframe .start .d0 .two) nofun h
  | seqSendbyte => exact exec_frame_effect (g := .sendbyte .start .d0 0) nofun h
  | seqGetbyte => exact exec_frame_effect (g := .getbyte .start .d0) nofun h
  | seqXlate => exact execSeqXlate_effect h
  | seqIrq => exact execSeqIrq_effect h
  | seqInrange | seqPortRd | seqPaceRd | seqDmaProg | seqCfgRd | seqMemRd => cases h; exact {}
  | seqMemWr => cases h; exact { memory := .inr ⟨_, _, rfl, .inr rfl, rfl⟩ }

-- The statements, each read off one field of the effect

theorem not_accepts (hhost : (encode i).1 ≠ .host) (hidle : i ≠ .seqIdle) : ¬ Accepts i :=
  fun h => h.elim hhost hidle

/-- Settles O46: `ERR` is as it was, or holds the first cause. -/
theorem firstCauseStays : Obligations.FirstCauseStays := by
  intro i s s' hhost hidle h
  obtain hsame | ⟨haccepts, -⟩ | ⟨c, hcause⟩ := (exec_effect h).err
  · rw [hsame]
    exact ⟨fun _ => rfl, .inl⟩
  · exact absurd haccepts (not_accepts hhost hidle)
  · rw [hcause]
    exact ⟨fun hne => if_neg hne, fun hzero => .inr ⟨c, if_pos hzero⟩⟩

/-- Settles O47: `CS` and `IE` are as they were, or one of their writers ran. -/
theorem signalAndEnableHaveOneWriter : Obligations.SignalAndEnableHaveOneWriter := by
  intro i s s' h
  have heff := exec_effect h
  refine ⟨fun hoff hon => ?set, fun hon hoff => ?clear, fun hon => ?keep, fun hoff hon => ?enable⟩
  case set =>
    obtain hsame | ⟨hirq, hie, -⟩ | ⟨-, hclear⟩ := heff.signal
    · rw [hsame, hoff] at hon; cases hon
    · exact ⟨hirq, hie⟩
    · rw [hclear] at hon; cases hon
  case clear =>
    obtain hsame | ⟨-, -, hset⟩ | ⟨hwait, -⟩ := heff.signal
    · rw [hsame, hon] at hoff; cases hoff
    · rw [hset] at hoff; cases hoff
    · exact hwait
  case keep =>
    obtain hsame | ⟨-, hset⟩ := heff.enable
    · rw [hsame, hon]
    · exact hset
  case enable =>
    obtain hsame | ⟨hinit, -⟩ := heff.enable
    · rw [hsame, hoff] at hon; cases hon
    · exact hinit

/-- Settles O48: among the changes of a drive record two write `cur_cyl`, at the places after WAIT. -/
theorem trackedCylinderIsReported : Obligations.TrackedCylinderIsReported := by
  intro i s s' d h
  have hd := (exec_effect h).driveChange d
  generalize s'.drv d = r at hd ⊢
  cases hd with
  | sought below x hi hs hret => exact .inr ⟨rfl, hret, below, .inl ⟨hi, x, hs⟩⟩
  | rehomed below hi hs hret => exact .inr ⟨rfl, hret, below, .inr ⟨hi, hs⟩⟩
  | _ => exact .inl rfl

/-- Settles O49: each change of a drive record is made by its writer and leaves the other fields. -/
theorem driveFieldsKeepTheirWriters : Obligations.DriveFieldsKeepTheirWriters := by
  intro i s s' d h detects
  have hd := (exec_effect h).driveChange d
  generalize s'.drv d = r at hd ⊢
  cases hd with
  | unchanged => simp +contextual
  | sought _ _ hi => simp +contextual [hi]
  | rehomed _ hi => simp +contextual [hi]
  | opened _ hi => simp [hi]
  | closed _ hi => simp [hi]
  | advanced hi hret => simpa +contextual [hi] using hret
  | positioned hi => simp +contextual [hi]
  | constructed x hi =>
    exact ⟨.inl rfl, .inl rfl, nofun, fun _ _ => .inr hi, fun _ => rfl, fun _ => hi, fun hne => by simp at hne⟩
  | fetched _ _ _ hi => simp +contextual [hi]
  | issued _ _ hi => simpa +contextual using fun _ => Or.inr hi

/-- Settles O50: the latch is as it was, or the instruction is an accept. -/
theorem commandLatchIsHeld : Obligations.CommandLatchIsHeld := by
  intro i s s' hhost hidle h
  exact (exec_effect h).latch.resolve_right (not_accepts hhost hidle)

/-- Settles O52: the shadows are as they were, or follow the one port write. -/
theorem shadowFollowsTheWrites : Obligations.ShadowFollowsTheWrites := by
  intro i s s' h
  refine (exec_effect h).shadow.imp_left fun ⟨hprimary, hsecondary⟩ g => ?_
  cases g
  · exact hprimary
  · exact hsecondary

end Sys2Proof.Machine
end

section
/-! PROOF. The invariant: reset meets it, and every step of every agent answers a next state that meets it. -/

namespace Sys2Proof.Machine

variable {s s' : State} {f : Frame} {below : List Frame}

-- Reset (10 R24, 70 R230)

/-- Settles O39: `Regs.reset` lists the values of the table. -/
theorem resetGivesTheStatedValues : Obligations.ResetGivesTheStatedValues := by
  unfold Obligations.ResetGivesTheStatedValues
  decide

/-- The reset line leaves a good block in good surroundings. -/
theorem good_hardReset (config : configOk s.cfg = true) (issue : s.env.issue = none)
    (memory : memOk s.env.sys = true) : Good (hardReset s) where
  config := config
  issue := issue
  memory := memory
  stack := rfl
  err := by simp [Regs.reset]
  drive0 := rfl
  drive1 := rfl
  inUse := by simp [Regs.reset, frameOk]

/-- Settles O40: the standard configuration is well formed, and the reset state is one after the reset line. -/
theorem resetIsGood : Obligations.ResetIsGood :=
  good_hardReset (s := State.reset) (st_configOk []) rfl memOk_reset

-- The depth of the stack (10 R14)

/-- Settles O44: the frame on top bounds the depth, by seven at most. -/
theorem stackIsAtMostSevenDeep : Obligations.StackIsAtMostSevenDeep := by
  intro h l hl
  cases l with
  | nil => cases hl
  | cons f below => exact ⟨by simp, (stackOk_length_le h f below hl).trans f.maxDepth_le_seven⟩

-- What the invariant reads

theorem State.valid_congr (drv0 : s'.reg.drv0 = s.reg.drv0) (drv1 : s'.reg.drv1 = s.reg.drv1) :
    s'.valid = s.valid := by
  funext d
  simp only [State.valid, State.drv_congr s s' d drv0 drv1]

/-- The invariant reads the configuration, the issue latch, SYS, and of the block the control byte, the
stack, `ERR` and the drive records. -/
theorem Good.of_same (good : Good s) (cfg : s'.cfg = s.cfg := by rfl)
    (issue : s'.env.issue = s.env.issue := by rfl) (ctl : s'.reg.ctl = s.reg.ctl := by rfl)
    (spc : s'.reg.spc = s.reg.spc := by rfl) (err : s'.reg.err = s.reg.err := by rfl)
    (drv0 : s'.reg.drv0 = s.reg.drv0 := by rfl) (drv1 : s'.reg.drv1 = s.reg.drv1 := by rfl)
    (memory : memOk s'.env.sys = true) : Good s' where
  config := by rw [cfg]; exact good.config
  issue := issue.trans good.issue
  memory := memory
  stack := by rw [spc, State.handle_congr ctl]; exact good.stack
  err := by rw [err]; exact good.err
  drive0 := by rw [drv0]; exact good.drive0
  drive1 := by rw [drv1]; exact good.drive1
  inUse := by
    intro x hx
    rw [frameOk_eq_uses, State.valid_congr drv0 drv1, ← frameOk_eq_uses]
    exact good.inUse x (spc ▸ hx)

theorem Good.drive (good : Good s) (d : DriveId) : driveOk (s.drv d) = true := by
  cases d
  · exact good.drive0
  · exact good.drive1

-- The effect of an instruction keeps SYS canonical, `ERR` a cause code, and 10 R19

theorem Effect.keeps_memOk {i : Instr} (eff : Effect i s s') (h : memOk s.env.sys = true) :
    memOk s'.env.sys = true := by
  obtain hsame | ⟨a, v, -, -, hset⟩ := eff.memory
  · rw [hsame]; exact h
  · rw [hset]; exact memOk_memSet _ _ _ h a.isLt

theorem Cause.code_le_eleven (c : Cause) : c.code.toNat ≤ 11 := by cases c <;> decide

theorem Effect.err_le {i : Instr} (eff : Effect i s s') (h : s.reg.err.toNat ≤ 11) : s'.reg.err.toNat ≤ 11 := by
  obtain hsame | ⟨-, hzero⟩ | ⟨c, hcause⟩ := eff.err
  · rw [hsame]; exact h
  · rw [hzero]; decide
  · rw [hcause, firstCause]
    split
    · exact c.code_le_eleven
    · exact h

/-- A detected type code is a legal geometry index. -/
theorem driveOk_of_detected {x : BitVec 4} {r : Drive} (hx : detected x = true) (hr : r.geom = x.truncate 3) :
    driveOk r = true := by
  have hgeom : r.geom.toNat = x.toNat % 8 := by rw [hr]; simp
  simp only [detected, Bool.and_eq_true, decide_eq_true_eq] at hx
  simp only [driveOk, Bool.or_eq_true, Bool.and_eq_true, decide_eq_true_eq]
  omega

theorem DriveChange.keeps_driveOk {i : Instr} {d : DriveId} {r : Drive} (h : DriveChange i s d r)
    (ok : driveOk (s.drv d) = true) : driveOk r = true := by
  cases h with
  | constructed x _ hx => exact driveOk_of_detected hx rfl
  | _ => exact ok

-- A move on the stack keeps it legal and its frames in use (10 R14, R21)

theorem StackMove.keeps_stackOk {h : DriveId} (move : StackMove f below s s') (hh : s.handle = h)
    (hl : stackOk h (f :: below) = true) : stackOk h s'.reg.spc = true := by
  cases move with
  | ends spc => rw [spc]; rfl
  | goOn f' spc same => rw [spc, stackOk_of_started_eq same]; exact hl
  | call g f' spc same ok =>
    rw [spc, stackOk, ← hh, ok, hh, stackOk_of_started_eq same, hl]
    rfl
  | ret spc ne =>
    rw [spc]
    cases below with
    | nil => exact absurd rfl ne
    | cons c rest =>
      simp only [stackOk, Bool.and_eq_true] at hl
      exact hl.2

theorem StackMove.keeps_inUse (move : StackMove f below s s') (held : ∀ x ∈ f :: below, frameOk s' x = true) :
    ∀ x ∈ s'.reg.spc, frameOk s' x = true := by
  obtain ⟨hf, hbelow⟩ := List.forall_mem_cons.mp held
  have same_use : ∀ f' : Frame, f'.uses = f.uses → frameOk s' f' = true := by
    intro f' huses
    rw [frameOk_eq_uses, huses, ← frameOk_eq_uses]
    exact hf
  cases move with
  | ends spc => rw [spc]; simp [frameOk]
  | goOn f' spc _ uses => rw [spc]; exact List.forall_mem_cons.mpr ⟨same_use f' uses, hbelow⟩
  | call g f' spc _ _ callee uses =>
    rw [spc]
    exact List.forall_mem_cons.mpr ⟨callee, List.forall_mem_cons.mpr ⟨uses.elim (same_use f') id, hbelow⟩⟩
  | ret spc => rw [spc]; exact hbelow

/-- A drive in use stays present and locked but for CLOSE and detection (10 R18). -/
theorem valid_kept {i : Instr} (hi : i ≠ .seqClose) (hd : ¬ Detects i) (h : exec i s = .next s') (d : DriveId)
    (hv : s.valid d = true) : s'.valid d = true := by
  obtain ⟨-, -, -, hunlock, hpresent, -⟩ := driveFieldsKeepTheirWriters i s s' d h
  simp only [State.valid, Bool.and_eq_true] at hv ⊢
  refine ⟨hpresent hv.1, ?_⟩
  by_contra hlock
  exact (hunlock hv.2 (Bool.eq_false_of_not_eq_true hlock)).elim hi hd

/-- CLOSE and INIT run alone and use no drive in the sense of 10 R21; every other sequence keeps the drives
in use. -/
theorem frames_held (good : Good s) (hs : s.reg.spc = f :: below) (h : exec f.instr s = .next s') :
    ∀ x ∈ f :: below, frameOk s' x = true := by
  have hstack := good.stack
  have hinUse := good.inUse
  rw [hs] at hstack hinUse
  by_cases hquits : f.instr = .seqClose ∨ Detects f.instr
  · have hf : bottomOk f = true ∧ f.uses = none := by
      cases f with
      | opClose | init => exact ⟨rfl, rfl⟩
      | _ => simp [Detects, Frame.instr] at hquits
    rw [stackOk_bottom hf.1 hstack]
    simp [frameOk_eq_uses, hf.2]
  · obtain ⟨hclose, hdetect⟩ := not_or.mp hquits
    intro x hx
    have hok := hinUse x hx
    rw [frameOk_eq_uses] at hok ⊢
    cases huses : x.uses with
    | none => rfl
    | some d => rw [huses] at hok; exact valid_kept hclose hdetect h d hok

-- No sequence stops in a good state

/-- A sequence that returns was called, so it does not stand alone. -/
theorem bottomOk_of_mayReturn (hf : f.mayReturn = true) : bottomOk f = false := by
  unfold Frame.mayReturn at hf
  split at hf
  case h_22 => cases hf
  all_goals rfl

/-- The geometry of a legal index meets the bounds of 00 R6(d). -/
theorem geometryOk_geometry {c : Config} {g : BitVec 3} (hc : configOk c = true) (hpos : 1 ≤ g.toNat)
    (hle : g.toNat ≤ 5) : geometryOk (geometry c g) = true := by
  simp only [configOk, Bool.and_eq_true] at hc
  obtain ⟨⟨⟨⟨-, ⟨⟨⟨⟨⟨-, h1⟩, h2⟩, h3⟩, h4⟩, h5⟩⟩, -⟩, -⟩, -⟩ := hc
  have hg : g = 1 ∨ g = 2 ∨ g = 3 ∨ g = 4 ∨ g = 5 := by revert g; decide
  rcases hg with rfl | rfl | rfl | rfl | rfl <;> assumption

/-- The translator has a value for every drive in use (43 R124). -/
theorem Good.geometry_pos (good : Good s) {d : DriveId} (hv : s.valid d = true) :
    (s.geomOf d).heads ≠ 0 ∧ (s.geomOf d).sectors ≠ 0 := by
  simp only [State.valid, Bool.and_eq_true] at hv
  have hdrive := good.drive d
  simp only [driveOk, hv.1, Bool.not_true, Bool.false_or, Bool.and_eq_true, decide_eq_true_eq] at hdrive
  have hgeom : geometryOk (s.geomOf d) = true := geometryOk_geometry good.config hdrive.1 hdrive.2
  simp only [geometryOk, Bool.and_eq_true, decide_eq_true_eq] at hgeom
  omega

/-- In a good state the sequence on top answers a next state, and that state is good. -/
theorem exec_frame_keeps_good (good : Good s) (hs : s.reg.spc = f :: below) (hf : f ≠ .idle) :
    ∃ t, exec f.instr s = .next t ∧ Good t := by
  have hstack := good.stack
  rw [hs] at hstack
  have hb := exec_frame_behaves hs hf
  generalize hx : exec f.instr s = r at hb
  cases hb with
  | noCaller hmay hbelow =>
    subst hbelow
    rw [stackOk, bottomOk_of_mayReturn hmay] at hstack
    cases hstack
  | @xlateDomain d b buf hstart hzero =>
    have hvalid := good.inUse (.readblock .start d b buf) (by simp [hs, hstart])
    obtain ⟨hheads, hsectors⟩ := good.geometry_pos (d := d) hvalid
    exact absurd hzero (not_or.mpr ⟨hheads, hsectors⟩)
  | @next t eff move =>
    have hadv := exec_frame_advances hf hx
    exact ⟨t, rfl,
      { config := by rw [hadv.cfg]; exact good.config
        issue := eff.issue.trans good.issue
        memory := eff.keeps_memOk good.memory
        stack := by rw [State.handle_congr hadv.ctl]; exact move.keeps_stackOk rfl hstack
        err := eff.err_le good.err
        drive0 := (eff.driveChange .d0).keeps_driveOk good.drive0
        drive1 := (eff.driveChange .d1).keeps_driveOk good.drive1
        inUse := move.keeps_inUse (frames_held good hs hx) }⟩

-- IDLE and the accept (46 R170)

theorem encode_decodeHost_space (ctl : Byte) (a : BitVec 64) (b : BitVec 32) :
    (encode (decodeHost ctl a b)).1 = .host := by
  unfold decodeHost
  dsimp only
  split_ifs <;> rfl

theorem Good.of_accepted (good : Good s) (hf : OperationStart f) (ctl : Byte) (a : BitVec 64) (b : BitVec 32) :
    Good (s.turned { s.reg with ctl := ctl, a := a, b := b, err := 0, spc := [f] }) where
  config := good.config
  issue := good.issue
  memory := good.memory
  stack := hf.1
  err := by simp
  drive0 := good.drive0
  drive1 := good.drive1
  inUse := by simp [frameOk_eq_uses, hf.2]

/-- In a good state an instruction comes up, answers a next state, and that state is good. -/
theorem fetch_keeps_good (good : Good s) :
    ∃ i u, fetch s = some (i, u) ∧ ∃ t, exec i u = .next t ∧ Good t := by
  have hstack := good.stack
  obtain ⟨f, below, hs⟩ : ∃ f below, s.reg.spc = f :: below := by
    cases hspc : s.reg.spc with
    | nil => rw [hspc] at hstack; cases hstack
    | cons f below => exact ⟨f, below, rfl⟩
  by_cases hf : f = .idle
  · subst hf
    rw [hs] at hstack
    rw [stackOk_bottom rfl hstack] at hs
    cases hcmd : s.env.cmd with
    | none => exact ⟨_, _, fetch_waiting hs hcmd, s, by simp only [exec, execSeqIdle, hs, hcmd], good⟩
    | some c =>
      refine ⟨_, _, fetch_command hs hcmd, ?_⟩
      have hgood : Good { s with env := { s.env with cmd := none } } := good.of_same (memory := good.memory)
      obtain ⟨ctl, a, b, f, hstart, hx⟩ := exec_host (encode_decodeHost_space c.ctl c.a c.b) _
      rcases accept_cases ctl a b f { s with env := { s.env with cmd := none } } with ⟨-, ha⟩ | ⟨hbusy, -⟩
      · exact ⟨_, by rw [hx, ha], hgood.of_accepted hstart ctl a b⟩
      · exact absurd hs hbusy
  · exact ⟨_, _, fetch_busy hs hf, exec_frame_keeps_good good hs hf⟩

-- The step, whoever moves (00 R9)

theorem sequencerStep_keeps_good (n : Nat) (good : Good s) :
    ∃ t, sequencerStep exec n s = .next t ∧ Good t := by
  induction n generalizing s with
  | zero => exact ⟨s, rfl, good⟩
  | succ n ih =>
    obtain ⟨i, u, hfetch, t, hx, ht⟩ := fetch_keeps_good good
    rw [sequencerStep_of_next hfetch hx]
    split
    · exact ⟨t, rfl, ht⟩
    · exact ih ht

theorem agentStep_keeps_good (m : Move) (good : Good s) : ∃ t, agentStep exec m s = .next t ∧ Good t := by
  cases m with
  | sequencer => exact sequencerStep_keeps_good silentFuel good
  | irqFire => exact ⟨_, rfl, good.of_same (memory := good.memory)⟩
  | dmaWrite i v =>
    cases hdma : s.env.dma with
    | none => exact ⟨s, by simp only [agentStep, hdma], good⟩
    | some x =>
      exact ⟨_, by simp only [agentStep, hdma]; rfl, good.of_same (memory := memOk_setSys _ _ _ good.memory)⟩
  | sysWrite a v => exact ⟨_, rfl, good.of_same (memory := memOk_setSys _ _ _ good.memory)⟩
  | present c => exact ⟨_, rfl, good.of_same (memory := good.memory)⟩
  | rst => exact ⟨_, rfl, good_hardReset good.config good.issue good.memory⟩

/-- Settles O41: the invariant holds of what each agent leaves, the sequencer's instructions one by one. -/
theorem stepKeepsGood : Obligations.StepKeepsGood := by
  intro s good
  cases hsched : s.env.sched with
  | nil =>
    rw [step_alone good.config ⟨good.issue, hsched⟩]
    exact sequencerStep_keeps_good 32 good
  | cons m rest =>
    rw [step_scheduled good.config good.issue hsched]
    exact agentStep_keeps_good m (good.of_same (memory := good.memory))

end Sys2Proof.Machine
end

section
/-! PROOF. The memory SYS: what determines a canonical memory, which byte an instruction writes, and the
canonical form along every step (20 R40 to R46). -/

namespace Sys2Proof.Machine

-- The canonical form and the bytes it lists

theorem memOk_cons {k : Nat} {w : Byte} {rest : List Host.Cell} :
    memOk ((k, w) :: rest) = true ↔
      k < 2 ^ 32 ∧ w ≠ unlisted ∧ (∀ c ∈ rest, k < c.1) ∧ memOk rest = true := by
  simp only [memOk, Bool.and_eq_true, decide_eq_true_eq, bne_iff_ne, List.all_eq_true, and_assoc]

theorem memGet_cons_same (k : Nat) (w : Byte) (rest : List Host.Cell) : memGet ((k, w) :: rest) k = w :=
  if_pos rfl

theorem memGet_cons_other {k a : Nat} (h : k ≠ a) (w : Byte) (rest : List Host.Cell) :
    memGet ((k, w) :: rest) a = memGet rest a :=
  if_neg h

/-- An address below every entry reads as unlisted. -/
theorem memGet_of_lt {m : List Host.Cell} {a : Nat} (h : ∀ c ∈ m, a < c.1) : memGet m a = unlisted := by
  induction m with
  | nil => rfl
  | cons c rest ih =>
    obtain ⟨hc, hrest⟩ := List.forall_mem_cons.mp h
    rw [memGet_cons_other hc.ne']
    exact ih hrest

/-- The first entry of a canonical memory is read back, so it tells the memory from any other whose
entries all lie above it. -/
theorem memGet_head_ne {k : Nat} {w : Byte} {rest n : List Host.Cell} (hm : memOk ((k, w) :: rest) = true)
    (hn : ∀ c ∈ n, k < c.1) : memGet ((k, w) :: rest) k ≠ memGet n k := by
  obtain ⟨-, hw, -, -⟩ := memOk_cons.mp hm
  rwa [memGet_cons_same, memGet_of_lt hn]

/-- Entries of a canonical memory lie above every address below its first entry. -/
theorem lt_of_lt_head {a k : Nat} {w : Byte} {rest : List Host.Cell} (hm : memOk ((k, w) :: rest) = true)
    (ha : a < k) : ∀ c ∈ (k, w) :: rest, a < c.1 := by
  obtain ⟨-, -, habove, -⟩ := memOk_cons.mp hm
  exact List.forall_mem_cons.mpr ⟨ha, fun c hc => ha.trans (habove c hc)⟩

/-- Canonical memories that read alike list the same entries: their first entries stand at one address,
for else the lower of the two would read differently, and hold one byte; so do their tails. -/
theorem memOk_ext {m n : List Host.Cell} (hm : memOk m = true) (hn : memOk n = true)
    (alike : ∀ a < 2 ^ 32, memGet m a = memGet n a) : m = n := by
  induction m generalizing n with
  | nil =>
    cases n with
    | nil => rfl
    | cons y ys =>
      obtain ⟨hl, -⟩ := memOk_cons.mp hn
      exact absurd (alike _ hl).symm (memGet_head_ne hn (by simp))
  | cons x xs ih =>
    obtain ⟨k, w⟩ := x
    obtain ⟨hk, -, hxs, hokxs⟩ := memOk_cons.mp hm
    cases n with
    | nil => exact absurd (alike k hk) (memGet_head_ne hm (by simp))
    | cons y ys =>
      obtain ⟨l, v⟩ := y
      obtain ⟨hl, -, hys, hokys⟩ := memOk_cons.mp hn
      obtain hlt | rfl | hgt := lt_trichotomy k l
      · exact absurd (alike k hk) (memGet_head_ne hm (lt_of_lt_head hn hlt))
      · have hbyte : w = v := by simpa only [memGet_cons_same] using alike k hk
        have htails : ∀ a < 2 ^ 32, memGet xs a = memGet ys a := by
          intro a ha
          by_cases hka : k = a
          · subst hka
            rw [memGet_of_lt hxs, memGet_of_lt hys]
          · simpa only [memGet_cons_other hka] using alike a ha
        rw [hbyte, ih hokxs hokys htails]
      · exact absurd (alike l hl).symm (memGet_head_ne hn (lt_of_lt_head hm hgt))

/-- Settles O56: the laws of `memSet`, and extensionality with every address below `2 ^ 32` as an `Addr`. -/
theorem memoryReadsBackWrites : Obligations.MemoryReadsBackWrites := by
  intro m a b v hm
  refine ⟨memOk_memSet m a.toNat v hm a.isLt, ?read, fun n hn alike => memOk_ext hm hn fun x hx => ?ext⟩
  case read =>
    split
    next hba => rw [hba]; exact memGet_memSet_same m a.toNat v hm
    next hba => exact memGet_memSet_other m a.toNat b.toNat v (mt BitVec.eq_of_toNat_eq hba)
  case ext =>
    have hread := alike (BitVec.ofNat 32 x)
    rwa [BitVec.toNat_ofNat, Nat.mod_eq_of_lt hx] at hread

-- One instruction

/-- Settles O53: the effect on SYS is none, or the one `memSet` of the recorded write. -/
theorem memoryChangesByOneWrittenByte : Obligations.MemoryChangesByOneWrittenByte := by
  intro i s t h
  obtain hsame | ⟨a, v, htrace, hwriter, hset⟩ := (exec_effect h).memory
  · exact .inl hsame
  · refine .inr ⟨a, v, htrace, hwriter, fun b hb => ?_⟩
    rw [State.sysByte, hset]
    exact memGet_memSet_other s.env.sys a.toNat b.toNat v (mt BitVec.eq_of_toNat_eq hb)

-- One step, in every state

variable {s t u : State} {i : Instr}

theorem exec_keeps_memOk (h : exec i s = .next t) (ok : memOk s.env.sys = true) : memOk t.env.sys = true :=
  (exec_effect h).keeps_memOk ok

/-- What comes up runs in the same memory: a fetch takes at most the command off the port (46 R170). -/
theorem fetch_sys (h : fetch s = some (i, u)) : u.env.sys = s.env.sys := by
  unfold fetch at h
  split at h
  · cases h
  · split at h <;> cases h <;> rfl
  · cases h; rfl

/-- A sequencer step that answers a next state ends with the instruction that comes up, or goes on after it. -/
theorem sequencerStep_next {ex : Instr → State → Result} {n : Nat} (h : sequencerStep ex (n + 1) s = .next t) :
    ∃ i u u', fetch s = some (i, u) ∧ ex i u = .next u' ∧ (u' = t ∨ sequencerStep ex n u' = .next t) := by
  cases hf : fetch s with
  | none => simp [sequencerStep, hf] at h
  | some p =>
    obtain ⟨i, u⟩ := p
    cases hx : ex i u with
    | fault r => rw [sequencerStep_of_fault hf hx] at h; cases h
    | refused r => rw [sequencerStep_of_refused hf hx] at h; cases h
    | next u' =>
      rw [sequencerStep_of_next hf hx] at h
      refine ⟨i, u, u', rfl, hx, ?_⟩
      split at h
      · cases h; exact .inl rfl
      · exact .inr h

theorem sequencerStep_keeps_memOk {n : Nat} (h : sequencerStep exec n s = .next t)
    (ok : memOk s.env.sys = true) : memOk t.env.sys = true := by
  induction n generalizing s with
  | zero => cases h; exact ok
  | succ n ih =>
    obtain ⟨i, u, u', hfetch, hx, hend⟩ := sequencerStep_next h
    have hu' : memOk u'.env.sys = true := exec_keeps_memOk hx (by rw [fetch_sys hfetch]; exact ok)
    obtain rfl | hrest := hend
    · exact hu'
    · exact ih hrest hu'

/-- The other agents write SYS by `setSys` alone (00 R9). -/
theorem agentStep_keeps_memOk {m : Move} (h : agentStep exec m s = .next t) (ok : memOk s.env.sys = true) :
    memOk t.env.sys = true := by
  cases m with
  | sequencer => exact sequencerStep_keeps_memOk h ok
  | irqFire => exact exec_keeps_memOk (i := .seqIrq) h ok
  | dmaWrite j v =>
    simp only [agentStep] at h
    split at h <;> cases h
    · exact ok
    · exact memOk_setSys s _ v ok
  | sysWrite a v => cases h; exact memOk_setSys s a v ok
  | present c | rst => cases h; exact ok

/-- An object in the issue latch that decodes to no instruction is refused. -/
theorem step_undecodable {sp : Space} {bs : List Byte} {e : DecodeError} (hc : configOk s.cfg = true)
    (hi : s.env.issue = some (sp, bs)) (hd : decode sp bs = .error e) :
    step s = .refused (.noSuchInstruction e) := by
  simp only [step, stepWith, hc, hi, hd, if_true]

/-- Settles O42: an issued object is one instruction; a scheduled agent and the sequencer keep the form. -/
theorem stepKeepsMemoryCanonical : Obligations.StepKeepsMemoryCanonical := by
  intro s t ok h
  cases hc : configOk s.cfg with
  | false => rw [step_configIllFormed hc] at h; cases h
  | true =>
    cases hi : s.env.issue with
    | some p =>
      obtain ⟨sp, bs⟩ := p
      cases hd : decode sp bs with
      | ok i => rw [step_issued hc hi hd] at h; exact exec_keeps_memOk h ok
      | error e => rw [step_undecodable hc hi hd] at h; cases h
    | none =>
      cases hm : s.env.sched with
      | nil => rw [step_alone hc ⟨hi, hm⟩] at h; exact sequencerStep_keeps_memOk h ok
      | cons m rest => rw [step_scheduled hc hi hm] at h; exact agentStep_keeps_memOk h ok

end Sys2Proof.Machine
end

section
/-! PROOF. The decoder and the encoder are inverse to each other, format by format (30 R60 to R77). -/

namespace Sys2Proof.Machine

open BitVec (extractLsb'_append_eq_left extractLsb'_append_eq_right extractLsb'_append_eq_of_le)

-- Fields of a word: reading them out of their concatenation, and putting them together again

/-- A field on top of the bits below it. -/
theorem append_extract {w m n k : Nat} {x : BitVec w} {lo : Nat} (hlo : k = lo + n) {y : BitVec m}
    (hy : x.extractLsb' k m = y) : y ++ x.extractLsb' lo n = x.extractLsb' lo (m + n) := by
  rw [← hy, BitVec.extractLsb'_append_extractLsb'_eq_extractLsb' hlo]

@[simp] theorem extract_setWidth_low {n k : Nat} (h : n ≤ k) (x : BitVec n) :
    (x.setWidth k).extractLsb' 0 n = x := by
  rw [BitVec.extractLsb'_setWidth_of_le (by omega), BitVec.extractLsb'_eq_self]

@[simp] theorem extract_setWidth_high {n k m : Nat} (x : BitVec n) : (x.setWidth k).extractLsb' n m = 0 := by
  ext i hi
  simp

/-- A word with nothing above its low field is that field, extended. -/
theorem zeroExtend_extract {m n : Nat} {x : BitVec (m + n)} (h : x.extractLsb' n m = 0) :
    (x.extractLsb' 0 n).zeroExtend (m + n) = x := by
  ext i hi
  by_cases hin : i < n
  · simp [hin, hi]
  · have hbit := congrArg (fun y => y.getLsbD (i - n)) h
    simpa [show i - n < m by omega, show n + (i - n) = i by omega, hin, ← BitVec.getLsbD_eq_getElem] using hbit

section Fields

variable (q : BitVec 2) (x : BitVec 6) (y z : BitVec 4)

@[simp] theorem extract_two_six_high : (q ++ x : Byte).extractLsb' 6 2 = q := extractLsb'_append_eq_left
@[simp] theorem extract_two_six_low : (q ++ x : Byte).extractLsb' 0 6 = x := extractLsb'_append_eq_right
@[simp] theorem extract_six_two_high : (x ++ q : Byte).extractLsb' 2 6 = x := extractLsb'_append_eq_left
@[simp] theorem extract_six_two_low : (x ++ q : Byte).extractLsb' 0 2 = q := extractLsb'_append_eq_right
@[simp] theorem extract_four_four_high : (y ++ z : Byte).extractLsb' 4 4 = y := extractLsb'_append_eq_left
@[simp] theorem extract_four_four_low : (y ++ z : Byte).extractLsb' 0 4 = z := extractLsb'_append_eq_right

end Fields

-- Operand words and their bytes, least significant first (assumption 10)

@[simp] theorem word16_extracts (v : BitVec 16) : word16 (v.extractLsb' 0 8) (v.extractLsb' 8 8) = v := by
  unfold word16
  rw [append_extract (k := 8) rfl rfl]
  exact BitVec.extractLsb'_eq_self

@[simp] theorem word32_extracts (v : BitVec 32) :
    word32 (v.extractLsb' 0 8) (v.extractLsb' 8 8) (v.extractLsb' 16 8) (v.extractLsb' 24 8) = v := by
  unfold word32
  rw [append_extract (k := 24) rfl rfl, append_extract (k := 16) rfl rfl, append_extract (k := 8) rfl rfl]
  exact BitVec.extractLsb'_eq_self

@[simp] theorem word64_extracts (v : BitVec 64) :
    word64 (v.extractLsb' 0 8) (v.extractLsb' 8 8) (v.extractLsb' 16 8) (v.extractLsb' 24 8)
      (v.extractLsb' 32 8) (v.extractLsb' 40 8) (v.extractLsb' 48 8) (v.extractLsb' 56 8) = v := by
  unfold word64
  rw [append_extract (k := 56) rfl rfl, append_extract (k := 48) rfl rfl, append_extract (k := 40) rfl rfl,
    append_extract (k := 32) rfl rfl, append_extract (k := 24) rfl rfl, append_extract (k := 16) rfl rfl,
    append_extract (k := 8) rfl rfl]
  exact BitVec.extractLsb'_eq_self

/-- Above the low byte of a word stand the bits of the rest. -/
theorem extract_above_byte {n k m : Nat} (hi : BitVec n) (x : Byte) :
    (hi ++ x).extractLsb' (k + 8) m = hi.extractLsb' k m := by
  rw [extractLsb'_append_eq_of_le (by omega), Nat.add_sub_cancel]

@[simp] theorem bytes16_word16 (x0 x1 : Byte) : bytes16 (word16 x0 x1) = [x0, x1] := by
  unfold bytes16 word16
  rw [extract_above_byte, extractLsb'_append_eq_right, BitVec.extractLsb'_eq_self]

@[simp] theorem bytes32_word32 (x0 x1 x2 x3 : Byte) : bytes32 (word32 x0 x1 x2 x3) = [x0, x1, x2, x3] := by
  unfold bytes32 word32
  repeat rw [extract_above_byte]
  repeat rw [extractLsb'_append_eq_right]
  rw [BitVec.extractLsb'_eq_self]

@[simp] theorem bytes64_word64 (x0 x1 x2 x3 x4 x5 x6 x7 : Byte) :
    bytes64 (word64 x0 x1 x2 x3 x4 x5 x6 x7) = [x0, x1, x2, x3, x4, x5, x6, x7] := by
  unfold bytes64 word64
  repeat rw [extract_above_byte]
  repeat rw [extractLsb'_append_eq_right]
  rw [BitVec.extractLsb'_eq_self]

-- The control byte of a host command (30 R60)

section ControlByte

variable (op : BitVec 3) (h : BitVec 1) (o rsv : BitVec 2) (mid : BitVec 3) (low : BitVec 6)

@[simp] theorem hostControl_rsv : (hostControl op h o).extractLsb' 6 2 = (0 : BitVec 2) := by
  unfold hostControl
  rw [extractLsb'_append_eq_of_le (by decide), extractLsb'_append_eq_of_le (by decide)]
  exact extractLsb'_append_eq_left
@[simp] theorem hostControl_origin : (hostControl op h o).extractLsb' 4 2 = o := by
  unfold hostControl
  rw [extractLsb'_append_eq_of_le (by decide), extractLsb'_append_eq_of_le (by decide)]
  exact extractLsb'_append_eq_right
@[simp] theorem hostControl_handle : (hostControl op h o).extractLsb' 3 1 = h := by
  unfold hostControl
  rw [extractLsb'_append_eq_of_le (by decide)]
  exact extractLsb'_append_eq_right
@[simp] theorem hostControl_op : (hostControl op h o).extractLsb' 0 3 = op := extractLsb'_append_eq_right
@[simp] theorem illegalOpControl_rsv : (illegalOpControl op mid).extractLsb' 6 2 = (0 : BitVec 2) := by
  unfold illegalOpControl
  rw [extractLsb'_append_eq_of_le (by decide)]
  exact extractLsb'_append_eq_left
@[simp] theorem illegalOpControl_mid : (illegalOpControl op mid).extractLsb' 3 3 = mid := by
  unfold illegalOpControl
  rw [extractLsb'_append_eq_of_le (by decide)]
  exact extractLsb'_append_eq_right
@[simp] theorem illegalOpControl_op : (illegalOpControl op mid).extractLsb' 0 3 = op := extractLsb'_append_eq_right
@[simp] theorem illegalRsvControl_rsv : (illegalRsvControl rsv low).extractLsb' 6 2 = rsv :=
  extractLsb'_append_eq_left
@[simp] theorem illegalRsvControl_low : (illegalRsvControl rsv low).extractLsb' 0 6 = low :=
  extractLsb'_append_eq_right

end ControlByte

section ControlByteOfFields

variable {ctl : Byte} {rsv : BitVec 2} {op : BitVec 3}

theorem hostControl_of_fields (hrsv : ctl.extractLsb' 6 2 = (0 : BitVec 2)) (hop : ctl.extractLsb' 0 3 = op) :
    hostControl op (ctl.extractLsb' 3 1) (ctl.extractLsb' 4 2) = ctl := by
  unfold hostControl
  rw [append_extract (k := 6) rfl hrsv, append_extract (k := 4) rfl rfl, ← hop, append_extract (k := 3) rfl rfl]
  exact BitVec.extractLsb'_eq_self

theorem illegalOpControl_of_fields (hrsv : ctl.extractLsb' 6 2 = (0 : BitVec 2)) (hop : ctl.extractLsb' 0 3 = op) :
    illegalOpControl op (ctl.extractLsb' 3 3) = ctl := by
  unfold illegalOpControl
  rw [append_extract (k := 6) rfl hrsv, ← hop, append_extract (k := 3) rfl rfl]
  exact BitVec.extractLsb'_eq_self

theorem illegalRsvControl_of_fields (hrsv : ctl.extractLsb' 6 2 = rsv) :
    illegalRsvControl rsv (ctl.extractLsb' 0 6) = ctl := by
  unfold illegalRsvControl
  rw [append_extract (k := 6) rfl hrsv]
  exact BitVec.extractLsb'_eq_self

end ControlByteOfFields

/-- Settles O4: the reserved bits are tested first, then `op`. -/
theorem everyControlByteIsDecided : Obligations.EveryControlByteIsDecided := by
  intro ctl a b rsv op h o
  refine ⟨?_, ?_, ?_, ?_, ?_, ?_, ?_, ?_, ?_, ?_, ?_⟩
  case refine_9 | refine_10 | refine_11 => intro hrsv; simp [decodeHost, rsv, hrsv]
  case refine_6 | refine_7 | refine_8 => intro hrsv hop; simp [decodeHost, rsv, op, hrsv, hop]
  all_goals intro hrsv hop; simp [decodeHost, rsv, op, h, o, hrsv, hop]

theorem reservedBits_cases (x : BitVec 2) : x = 0 ∨ x = 1 ∨ x = 2 ∨ x = 3 := by
  revert x; decide

theorem operationBits_cases (x : BitVec 3) :
    x = 0 ∨ x = 1 ∨ x = 2 ∨ x = 3 ∨ x = 4 ∨ x = 5 ∨ x = 6 ∨ x = 7 := by
  revert x; decide

/-- Every control byte is the one its instruction is encoded with: no bit of it is ignored. -/
theorem encode_decodeHost (ctl : Byte) (a : BitVec 64) (b : BitVec 32) :
    encode (decodeHost ctl a b) = (.host, hostBytes ctl a b) := by
  obtain ⟨hopen, hclose, hread, hwrite, hseek, hop5, hop6, hop7, hrsv1, hrsv2, hrsv3⟩ :=
    everyControlByteIsDecided ctl a b
  rcases reservedBits_cases (ctl.extractLsb' 6 2) with r | r | r | r
  case inr.inl => rw [hrsv1 r, encode, illegalRsvControl_of_fields r]
  case inr.inr.inl => rw [hrsv2 r, encode, illegalRsvControl_of_fields r]
  case inr.inr.inr => rw [hrsv3 r, encode, illegalRsvControl_of_fields r]
  rcases operationBits_cases (ctl.extractLsb' 0 3) with p | p | p | p | p | p | p | p
  · rw [hopen r p, encode, hostControl_of_fields r p]
  · rw [hclose r p, encode, hostControl_of_fields r p]
  · rw [hread r p, encode, hostControl_of_fields r p]
  · rw [hwrite r p, encode, hostControl_of_fields r p]
  · rw [hseek r p, encode, hostControl_of_fields r p]
  · rw [hop5 r p, encode, illegalOpControl_of_fields r p]
  · rw [hop6 r p, encode, illegalOpControl_of_fields r p]
  · rw [hop7 r p, encode, illegalOpControl_of_fields r p]

theorem decode_hostBytes (ctl : Byte) (a : BitVec 64) (b : BitVec 32) :
    decode .host (hostBytes ctl a b) = .ok (decodeHost ctl a b) := by
  simp only [decode, hostBytes, bytes64, bytes32, List.cons_append, List.nil_append, word64_extracts, word32_extracts]

theorem hostBytes_of_decode {bs : List Byte} {i : Instr} (h : decode .host bs = .ok i) :
    ∃ ctl a b, bs = hostBytes ctl a b ∧ i = decodeHost ctl a b := by
  dsimp only [decode] at h
  split at h <;> cases h
  exact ⟨_, _, _, by rw [hostBytes, bytes64_word64, bytes32_word32]; rfl, rfl⟩

-- The frames on the data register (30 R67 to R71)

theorem encode_decodeCommand {bs : List Byte} {i : Instr} (h : decodeCommand bs = .ok i) :
    encode i = (.command, bs) := by
  unfold decodeCommand at h
  split at h
  case h_1 => -- SENSE INTERRUPT STATUS
    split_ifs at h with hop
    cases h
    rw [hop]; rfl
  case h_2 => -- RECALIBRATE
    split_ifs at h with hop hhigh
    cases h
    simp only [encode, zeroExtend_extract (m := 6) (not_not.mp hhigh), not_not.mp hop]
  case h_3 => -- SEEK
    split_ifs at h with hop hhigh
    cases h
    simp only [encode, zeroExtend_extract (m := 6) (not_not.mp hhigh), not_not.mp hop]
  case h_4 => -- READ
    split_ifs at h with hop hconst hhead
    cases h
    simp only [not_or, not_not] at hop hconst hhead
    obtain ⟨hsize, hgap, hlen⟩ := hconst
    rw [encode, append_extract (k := 2) rfl hhead, BitVec.extractLsb'_eq_self, hop, hsize, hgap, hlen]
  case h_5 => cases h

theorem encode_decodeResult {bs : List Byte} {i : Instr} (h : decodeResult bs = .ok i) :
    encode i = (.result, bs) := by
  unfold decodeResult at h
  split at h <;> cases h <;> rfl

-- The register words (30 R72 to R76)

theorem encode_decodeDor {w : DorWriter} {x : Byte} {i : Instr} (h : decodeDor w x = .ok i) :
    encode i = (.outputControl w, [x]) := by
  unfold decodeDor at h
  cases w
  all_goals
    dsimp only at h
    split_ifs at h <;> cases h <;> subst x <;> rfl

theorem encode_decodeStatus {x : Byte} {i : Instr} (h : decodeStatus x = .ok i) :
    encode i = (.mainStatus, [x]) := by
  unfold decodeStatus at h
  split_ifs at h with hsend hrecv <;> cases h
  · rw [encode, append_extract (k := 6) rfl hsend, BitVec.extractLsb'_eq_self]
  · rw [encode, append_extract (k := 6) rfl hrecv, BitVec.extractLsb'_eq_self]

-- The sequences (30 R77)

theorem encode_decodeSeqPlain {id : BitVec 5} {i : Instr} (h : decodeSeqPlain id = .ok i) :
    encode i = (.sequence, seqBytes id []) := by
  have hnumber : BitVec.ofNat 5 id.toNat = id := by simp
  unfold decodeSeqPlain at h
  split at h
  case h_23 | h_24 | h_25 => cases h -- ids 30 and 31, and the ids whose sequences carry operands
  all_goals
    next hid =>
      cases h
      rw [← hnumber, hid]
      rfl

theorem encode_decodeSeqOperands {id : BitVec 5} {ops : List Byte} {i : Instr}
    (h : decodeSeqOperands id ops = .ok i) : encode i = (.sequence, seqBytes id ops) := by
  unfold decodeSeqOperands at h
  split at h
  case h_5 => -- DMA_PROG, its channel in the low bits of a byte
    split_ifs at h with hid hhigh
    cases h
    rw [not_not] at hid hhigh
    simp only [encode, hid, bytes32_word32]
    rw [zeroExtend_extract (m := 5) hhigh]
    rfl
  case h_9 => cases h
  all_goals
    split_ifs at h with hid
    cases h
    simp [encode, hid]

theorem encode_decodeSequence {bs : List Byte} {i : Instr} (h : decode .sequence bs = .ok i) :
    encode i = (.sequence, bs) := by
  dsimp only [decode] at h
  split at h
  case h_1 => cases h
  case h_2 x ops =>
    split_ifs at h with hhigh
    have hid := zeroExtend_extract (m := 3) (not_not.mp hhigh)
    split at h
    case h_1 => rw [encode_decodeSeqPlain h, seqBytes, hid]
    case h_2 => rw [encode_decodeSeqOperands h, seqBytes, hid]

/-- Settles O2, space by space. -/
theorem encodeInvertsDecode : Obligations.EncodeInvertsDecode := by
  intro sp bs i h
  cases sp with
  | host =>
    obtain ⟨ctl, a, b, rfl, rfl⟩ := hostBytes_of_decode h
    exact encode_decodeHost ctl a b
  | command => exact encode_decodeCommand h
  | result => exact encode_decodeResult h
  | sequence => exact encode_decodeSequence h
  | outputControl w =>
    dsimp only [decode] at h
    split at h
    · exact encode_decodeDor h
    · cases h
  | configControl =>
    dsimp only [decode] at h
    split at h
    · split_ifs at h with hx
      cases h
      rw [hx]; rfl
    · cases h
  | mainStatus =>
    dsimp only [decode] at h
    split at h
    · exact encode_decodeStatus h
    · cases h
  | resultCode =>
    dsimp only [decode] at h
    split at h
    · split_ifs at h with hx
      cases h
      rw [encode, append_extract (k := 6) rfl hx, BitVec.extractLsb'_eq_self]
    · cases h
  | driveTypes =>
    dsimp only [decode] at h
    split at h <;> cases h
    rw [encode, append_extract (k := 4) rfl rfl, BitVec.extractLsb'_eq_self]

-- The other direction

theorem decode_seqBytes_plain (id : BitVec 5) : decode .sequence (seqBytes id []) = decodeSeqPlain id := by
  simp [decode, seqBytes]

theorem decode_seqBytes_operands (id : BitVec 5) (x : Byte) (ops : List Byte) :
    decode .sequence (seqBytes id (x :: ops)) = decodeSeqOperands id (x :: ops) := by
  simp [decode, seqBytes]

/-- Settles O1, format by format; the decoder inverts the encoder on ill-formed operands too. -/
theorem decodeEncodeRoundTrip : Obligations.DecodeEncodeRoundTrip := by
  intro i _
  cases i with
  | hostOpen | hostClose | hostRead | hostWrite | hostSeek | illegalOp5 | illegalOp6 | illegalOp7
  | illegalRsv1 | illegalRsv2 | illegalRsv3 =>
    rw [encode, decode_hostBytes]
    simp [decodeHost]
  | fdcSenseInterruptStatus | dorDisable | dorEnable | dorRun0 | dorRun1 | dorStop0 | dorStop1
  | rateDefault | fdcSisResult | fdcReadResult => rfl
  | fdcRecalibrate | fdcSeek | fdcRead => simp [encode, decode, decodeCommand]
  | msrSendReady | msrRecvReady => simp [encode, decode, decodeStatus]
  | st0Success => simp [encode, decode]
  | driveTypeByte => simp [encode, decode]
  | seqXlate | seqInrange | seqPortWr | seqPortRd | seqCfgRd | seqMemRd | seqMemWr =>
    refine (decode_seqBytes_operands ..).trans ?_
    simp [decodeSeqOperands, bytes16]
  | seqDmaProg =>
    refine (decode_seqBytes_operands ..).trans ?_
    simp [decodeSeqOperands, bytes32]
  | _ => exact decode_seqBytes_plain _

/-- Settles O3, word by word. -/
theorem writtenWordsDecode : Obligations.WrittenWordsDecode :=
  ⟨rfl, rfl, rfl, rfl, rfl, rfl, rfl, rfl, rfl⟩

end Sys2Proof.Machine
end

section
/-! PROOF. The encoded objects issued alone: wire frames and register words (30 R66 to R76, assumption 9). -/

namespace Sys2Proof.Machine

-- Written register words (30 R73, R74)

/-- Settles O31: each word's meaning is one port write. -/
theorem registerWordsAreOneWrite : Obligations.RegisterWordsAreOneWrite :=
  fun _ => ⟨rfl, rfl, rfl, rfl, rfl, rfl, rfl⟩

-- Wire frames (30 R66 to R71)

/-- One byte of a frame is one entry of `FB`. -/
theorem loadFrame_cons {n : Nat} (hn : n < 9) (x : Byte) (xs : List Byte) (fb : Vector Byte 9) :
    loadFrame (x :: xs) n fb = loadFrame xs (n + 1) (fb.set n x) := by
  rw [loadFrame]
  congr 1
  ext i hi
  rw [Vector.getElem_setIfInBounds, Vector.getElem_set]

/-- A frame of nine bytes fills `FB`. -/
theorem loadFrame_nine (x0 x1 x2 x3 x4 x5 x6 x7 x8 : Byte) (fb : Vector Byte 9) :
    loadFrame [x0, x1, x2, x3, x4, x5, x6, x7, x8] 0 fb = #v[x0, x1, x2, x3, x4, x5, x6, x7, x8] := by
  ext i hi
  interval_cases i <;> simp [loadFrame]

/-- The head above the drive-select bits, cut to a byte (30 R70). -/
theorem headByte_eq_append (head : Byte) (k : BitVec 2) :
    (head.zeroExtend 32 <<< 2 ||| k.zeroExtend 32).truncate 8 = (head.extractLsb' 0 6 ++ k : Byte) := by
  ext i hi
  rw [BitVec.getElem_append]
  split
  · next hlow => simp [hlow]
  · next hhigh =>
      simp [hhigh, BitVec.getLsbD_of_ge k i (by omega), BitVec.getLsbD_eq_getElem (show i - 2 < 8 by omega)]

/-- With byte operands the READ frame holds them as they are (30 R70). -/
theorem readFrame_of_bytes (c : Config) (k : BitVec 2) (cyl head sector eot : Byte) :
    readFrame c k (cyl.zeroExtend 32) (head.zeroExtend 32) (sector.zeroExtend 32) eot
      = [c.opcRead, head.extractLsb' 0 6 ++ k, cyl, head, sector, 2, eot, 0x1B, 0xFF] := by
  rw [readFrame, headByte_eq_append]
  simp [sizeCode, gapLength, dataLength]

/-- The two-byte result goes to `RF`, and from there to the drive (30 R67, 42 R112). -/
theorem keepStatus_of_result (d : DriveId) (code cyl : Byte) (s : State) :
    keepStatus d (s.turned { s.reg with rf := (s.reg.rf.set 0 code).set 1 cyl })
      = s.turned { s.reg.setDrv d { s.drv d with st0 := code, rcyl := cyl } with
          rf := (s.reg.rf.set 0 code).set 1 cyl } := by
  have h0 : ((s.reg.rf.set 0 code).set 1 cyl)[0] = code := by simp
  have h1 : ((s.reg.rf.set 0 code).set 1 cyl)[1] = cyl := by simp
  cases d <;> simp only [keepStatus, State.turned_reg, h0, h1] <;> rfl

/-- Settles O30: a command frame goes byte by byte to `FB`, a result frame to `RF`. -/
theorem wireFramesLoadTheirBuffers : Obligations.WireFramesLoadTheirBuffers := by
  intro s k t cyl head sec eot x y z d kb
  refine ⟨?_, ?_, ?_, ?_, ?_, rfl⟩
  · simp only [exec, execFdcSenseInterruptStatus, callSend, senseFrame]
    rw [loadFrame_cons (by decide)]
    rfl
  · simp only [exec, execFdcRecalibrate, callSend, recalFrame]
    rw [loadFrame_cons (by decide), loadFrame_cons (by decide)]
    rfl
  · simp only [exec, execFdcSeek, callSend, seekFrame]
    rw [loadFrame_cons (by decide), loadFrame_cons (by decide), loadFrame_cons (by decide)]
    rfl
  · simp only [exec, execFdcRead, callSend, readFrame_of_bytes, loadFrame_nine]
    rfl
  · exact congrArg _ (keepStatus_of_result d x y s)

-- Read register words (30 R72, R75)

/-- The default masks look at bits 7:6 of a status byte alone (30 R72). -/
theorem sendReady_of_defaults {c : Config} (hrqm : c.msrRqm = 0x80) (hdio : c.msrDio = 0x40) (q : BitVec 2)
    (x : BitVec 6) : sendReady c (q ++ x) = (q == 2) := by
  rw [sendReady, hrqm, hdio]
  revert q x
  decide

theorem recvReady_of_defaults {c : Config} (hrqm : c.msrRqm = 0x80) (hdio : c.msrDio = 0x40) (q : BitVec 2)
    (x : BitVec 6) : recvReady c (q ++ x) = (q == 3) := by
  rw [recvReady, hrqm, hdio]
  revert q x
  decide

/-- The default mask looks at bits 7:6 of a result code alone (30 R75). -/
theorem completionOk_of_default {c : Config} (hic : c.st0IcMask = 0xC0) (q : BitVec 2) (x : BitVec 6) :
    completionOk c (q ++ x) = (q == 0) := by
  rw [completionOk, hic]
  revert q x
  decide

/-- The environment's answer does not depend on the registers, and drawing it leaves them. -/
theorem answer_turned (s : State) (r : Regs) : answer (s.turned r) = ((answer s).1, (answer s).2.turned r) := by
  rcases answer_cases s with ⟨v, rest, hs, h⟩ | ⟨hs, h⟩ <;>
    rw [h] <;> simp only [answer, State.turned_env, hs] <;> rfl

/-- A port read draws the answer and records the event. -/
theorem portRead_turned (a : Port) (s : State) (r : Regs) :
    portRead a (s.turned r) = ((answer s).1, s.didRead (.ioRead a (answer s).1) r) := by
  rw [portRead, answer_turned]
  rcases answer_cases s with ⟨v, rest, -, h⟩ | ⟨-, h⟩ <;> simp only [State.didRead, h] <;> rfl

theorem takeStatus_sendbyte {s : State} {d : DriveId} {v : Byte} {below : List Frame} (m : Byte)
    (hs : s.reg.spc = .sendbyte .tested d v :: below) :
    takeStatus m s = .next (sendTest d v below (s.turned { s.reg with msrv := m })) := by
  simp only [takeStatus, hs]
  rfl

theorem takeStatus_getbyte {s : State} {d : DriveId} {below : List Frame} (m : Byte)
    (hs : s.reg.spc = .getbyte .tested d :: below) :
    takeStatus m s = .next (getTest d below (s.turned { s.reg with msrv := m })) := by
  simp only [takeStatus, hs]
  rfl

/-- Settles O32: the status byte, or the result code, decides the test of the place that looks at it. -/
theorem readWordsDecideTheTransfer : Obligations.ReadWordsDecideTheTransfer := by
  intro s d v x blk buf below hrqm hdio hic data send recv paces
  refine ⟨fun hs => ⟨?_, ?_⟩, fun hs => ⟨?_, ?_⟩, fun hs hret => ?_⟩
  case refine_1 => -- SENDBYTE, 10xxxxxx
    have hready : sendReady s.cfg send = true := sendReady_of_defaults hrqm hdio 2 x
    exact (takeStatus_sendbyte send hs).trans (congrArg _ (if_pos hready))
  case refine_2 => -- SENDBYTE, 11xxxxxx
    have hbusy : sendReady s.cfg recv = false := sendReady_of_defaults hrqm hdio 3 x
    refine (takeStatus_sendbyte recv hs).trans (congrArg _ ((if_neg (Bool.eq_false_iff.mp hbusy)).trans ?_))
    rw [paceRead, portRead_turned]
    rfl
  case refine_3 => -- GETBYTE, 11xxxxxx
    have hready : recvReady s.cfg recv = true := recvReady_of_defaults hrqm hdio 3 x
    refine (takeStatus_getbyte recv hs).trans (congrArg _ ((if_pos hready).trans ?_))
    rw [portRead_turned]
    rfl
  case refine_4 => -- GETBYTE, 10xxxxxx
    have hbusy : recvReady s.cfg send = false := recvReady_of_defaults hrqm hdio 2 x
    refine (takeStatus_getbyte send hs).trans (congrArg _ ((if_neg (Bool.eq_false_iff.mp hbusy)).trans ?_))
    rw [paceRead, portRead_turned]
    rfl
  case refine_5 => -- step 8 of READBLOCK, 00xxxxxx
    have hdone : completionOk s.cfg ((0 : BitVec 2) ++ x) = true := completionOk_of_default hic 0 x
    simp only [exec, execSt0Success, hs]
    rw [stepEight, State.drv_setDrv_same, State.setDrv_cfg, if_pos hdone]
    cases d <;> rfl

-- The drive-type byte (30 R76, 47 R190)

/-- Settles O33: the detection of drive 0, then of drive 1, each by its own code. -/
theorem driveTypeByteConstructsDrives : Obligations.DriveTypeByteConstructsDrives := by
  intro s x y on made
  have hon : ∀ u, on u ↔ detected u = true := fun u => by simp [on, detected]
  simp only [hon]
  refine ⟨fun hx hy => ?_, fun hx hy => ?_, fun hx hy => ?_, fun hx hy => ?_⟩
  all_goals simp only [exec, execDriveTypeByte, detectDrive, hx, hy]; rfl

end Sys2Proof.Machine
end

section
/-! PROOF. The `origin` field of the command latch is inert (30 R65): every meaning commutes with a change of it. -/

namespace Sys2Proof.Machine

-- What a change of the field leaves

section Reads

variable (s : State) (o : BitVec 2) (d : DriveId)

theorem State.setOrigin_eq_turned : s.setOrigin o = s.turned { s.reg with
    ctl := (s.reg.ctl.extractLsb' 6 2 ++ o : BitVec 4) ++ s.reg.ctl.extractLsb' 0 4 } := rfl

@[simp] theorem State.setOrigin_cfg : (s.setOrigin o).cfg = s.cfg := rfl
@[simp] theorem State.setOrigin_spc : (s.setOrigin o).reg.spc = s.reg.spc := rfl
@[simp] theorem State.setOrigin_ret : (s.setOrigin o).reg.ret = s.reg.ret := rfl
@[simp] theorem State.setOrigin_a : (s.setOrigin o).reg.a = s.reg.a := rfl
@[simp] theorem State.setOrigin_b : (s.setOrigin o).reg.b = s.reg.b := rfl
@[simp] theorem State.setOrigin_drv : (s.setOrigin o).drv d = s.drv d := by cases d <;> rfl
@[simp] theorem State.setOrigin_geomOf : (s.setOrigin o).geomOf d = s.geomOf d := by cases d <;> rfl
@[simp] theorem State.setOrigin_valid : (s.setOrigin o).valid d = s.valid d := by cases d <;> rfl

@[simp] theorem State.setOrigin_openMatch (name : DevName) : (s.setOrigin o).openMatch name = s.openMatch name := rfl

/-- The handle bit stands below the field. -/
@[simp] theorem State.setOrigin_handle : (s.setOrigin o).handle = s.handle := by
  refine congrArg driveOfBit ?_
  show (((s.reg.ctl.extractLsb' 6 2 ++ o : BitVec 4) ++ s.reg.ctl.extractLsb' 0 4 : Byte)).extractLsb' 3 1 = _
  rw [BitVec.extractLsb'_append_eq_of_add_le (by decide), BitVec.extractLsb'_extractLsb'_of_le (by decide)]

@[simp] theorem State.setOrigin_currentDrive : (s.setOrigin o).currentDrive = s.currentDrive := by
  simp only [State.currentDrive, State.setOrigin_spc, State.setOrigin_handle]

end Reads

-- The shared operations commute with the change

section Operations

variable (s : State) (o : BitVec 2) (d : DriveId) (below : List Frame)

theorem ite_setOrigin (p : Prop) [Decidable p] (t u : State) :
    (if p then t else u).setOrigin o = if p then t.setOrigin o else u.setOrigin o :=
  apply_ite (fun t : State => t.setOrigin o) p t u

theorem setDrv_setOrigin (x : Drive) : (s.setOrigin o).setDrv d x = (s.setDrv d x).setOrigin o := by
  cases d <;> rfl

theorem answer_setOrigin : answer (s.setOrigin o) = ((answer s).1, (answer s).2.setOrigin o) := by
  rw [State.setOrigin_eq_turned, answer_turned]
  rcases answer_cases s with ⟨v, rest, -, h⟩ | ⟨-, h⟩ <;> rw [h] <;> rfl

theorem portRead_setOrigin (a : Port) :
    portRead a (s.setOrigin o) = ((portRead a s).1, (portRead a s).2.setOrigin o) := by
  rw [portRead, answer_setOrigin]
  rfl

theorem cfgRead_setOrigin (i : Byte) :
    cfgRead i (s.setOrigin o) = ((cfgRead i s).1, (cfgRead i s).2.setOrigin o) := by
  rw [cfgRead, answer_setOrigin]
  rfl

theorem paceRead_setOrigin : paceRead (s.setOrigin o) = (paceRead s).setOrigin o := by
  rw [paceRead, portRead_setOrigin]
  rfl

theorem readStatus_setOrigin : readStatus d below (s.setOrigin o) = (readStatus d below s).setOrigin o := by
  rw [readStatus, portRead_setOrigin]
  rfl

theorem sendTest_setOrigin (v : Byte) : sendTest d v below (s.setOrigin o) = (sendTest d v below s).setOrigin o := by
  unfold sendTest
  rw [ite_setOrigin, paceRead_setOrigin]
  rfl

theorem getTest_setOrigin : getTest d below (s.setOrigin o) = (getTest d below s).setOrigin o := by
  unfold getTest
  rw [ite_setOrigin, paceRead_setOrigin, portRead_setOrigin]
  rfl

theorem detectDrive_setOrigin (x : BitVec 4) : detectDrive d x (s.setOrigin o) = (detectDrive d x s).setOrigin o := by
  unfold detectDrive
  rw [ite_setOrigin, setDrv_setOrigin, State.setOrigin_drv]
  rfl

theorem keepStatus_setOrigin : keepStatus d (s.setOrigin o) = (keepStatus d s).setOrigin o := by
  cases d <;> rfl

theorem confirmCylinder_setOrigin : confirmCylinder d (s.setOrigin o) = (confirmCylinder d s).setOrigin o := by
  cases d <;> rfl

theorem stepEight_setOrigin (b : BitVec 32) (buf : Addr) :
    stepEight d b buf below (s.setOrigin o) = (stepEight d b buf below s).setOrigin o := by
  unfold stepEight
  rw [ite_setOrigin, State.setOrigin_drv]
  rfl

theorem waitPoll_setOrigin : waitPoll d below (s.setOrigin o) = (waitPoll d below s).setOrigin o := by
  unfold waitPoll
  rw [ite_setOrigin]
  rfl

theorem xlate_setOrigin (b h n : Nat) :
    xlate b h n (s.setOrigin o) = (xlate b h n s).map fun t => t.setOrigin o := by
  rcases xlate_cases b h n s with ⟨hz, e⟩ | ⟨hh, hn, e⟩ <;> rw [e]
  · exact if_pos hz
  · exact if_neg (by simp [hh, hn])

theorem returnTo_setOrigin (r : SeqOutcome) :
    returnTo below r (s.setOrigin o) = mapNext (fun t => t.setOrigin o) (returnTo below r s) := by
  cases below <;> rfl

theorem raiseFail_setOrigin (c : Cause) :
    raiseFail c below (s.setOrigin o) = mapNext (fun t => t.setOrigin o) (raiseFail c below s) :=
  returnTo_setOrigin (record c s) o below (.fail c)

theorem waitMissed_setOrigin :
    waitMissed d below (s.setOrigin o) = mapNext (fun t => t.setOrigin o) (waitMissed d below s) := by
  simp only [waitMissed, State.setOrigin_cfg]
  split
  next => exact congrArg _ (waitPoll_setOrigin ..)
  next l _ =>
    show (if s.reg.wcnt + 1 = l then _ else _) = _
    split
    · exact raiseFail_setOrigin (s.turned { s.reg with wcnt := s.reg.wcnt + 1 }) ..
    · exact congrArg _ (waitPoll_setOrigin (s.turned { s.reg with wcnt := s.reg.wcnt + 1 }) ..)

theorem sendLoop_setOrigin (n : SendLen) :
    sendLoop d n below (s.setOrigin o) = mapNext (fun t => t.setOrigin o) (sendLoop d n below s) := by
  rcases sendLoop_cases d n below s with ⟨h, e⟩ | ⟨h, e⟩ <;> rw [e]
  · exact if_pos h
  · exact (if_neg (Nat.not_lt.mpr h)).trans (returnTo_setOrigin ..)

theorem getLoop_setOrigin (n : GetLen) :
    getLoop d n below (s.setOrigin o) = mapNext (fun t => t.setOrigin o) (getLoop d n below s) := by
  rcases getLoop_cases d n below s with ⟨h, e⟩ | ⟨h, e⟩ <;> rw [e]
  · exact if_pos h
  · exact (if_neg (Nat.not_lt.mpr h)).trans (returnTo_setOrigin ..)

end Operations

/-- The meaning `f` neither reads the `origin` field nor writes it. -/
def OriginInert (f : State → Result) : Prop :=
  ∀ (s : State) (o : BitVec 2), f (s.setOrigin o) = mapNext (fun t => t.setOrigin o) (f s)

-- The host operations and INIT (46 R172 to R177, 47 R190)

theorem execSeqInit_inert : OriginInert execSeqInit := by
  intro s o
  simp only [execSeqInit, State.setOrigin_spc]
  split
  case h_1 => rw [State.setOrigin_cfg, cfgRead_setOrigin]; rfl
  case h_2 => rw [detectDrive_setOrigin]; rfl
  case h_3 => rw [detectDrive_setOrigin]; rfl
  all_goals rfl

theorem execSeqOpen_inert : OriginInert execSeqOpen := by
  intro s o
  simp only [execSeqOpen, State.setOrigin_spc, State.setOrigin_openMatch, State.setOrigin_a, State.setOrigin_drv,
    setDrv_setOrigin]
  split
  case h_1 =>
    split
    · rfl
    · split <;> rfl
  all_goals rfl

theorem execSeqClose_inert : OriginInert execSeqClose := by
  intro s o
  simp only [execSeqClose, State.setOrigin_spc, State.setOrigin_handle, State.setOrigin_valid]
  split
  case h_1 => split <;> rfl
  case h_2 => rw [setDrv_setOrigin, State.setOrigin_drv]; rfl
  all_goals rfl

theorem execSeqRead_inert : OriginInert execSeqRead := by
  intro s o
  simp only [execSeqRead, State.setOrigin_spc, State.setOrigin_handle, State.setOrigin_valid, State.setOrigin_b,
    State.setOrigin_drv, State.setOrigin_geomOf, State.setOrigin_ret]
  split
  case h_1 =>
    split
    · rfl
    · split
      · rfl
      · split <;> rfl
  case h_2 =>
    split
    · rfl
    · rw [setDrv_setOrigin]; rfl
  case h_3 => rfl

theorem execSeqWrite_inert : OriginInert execSeqWrite := by
  intro s o
  simp only [execSeqWrite, State.setOrigin_spc]
  split <;> rfl

theorem execSeqSeek_inert : OriginInert execSeqSeek := by
  intro s o
  simp only [execSeqSeek, State.setOrigin_spc, State.setOrigin_handle, State.setOrigin_valid, State.setOrigin_drv,
    State.setOrigin_b]
  split
  · split
    · rw [setDrv_setOrigin]; rfl
    · rfl
  · rfl

theorem execSeqIllegal_inert : OriginInert execSeqIllegal := by
  intro s o
  simp only [execSeqIllegal, State.setOrigin_spc]
  split <;> rfl

-- The block I/O engine (45 R150, R157)

/-- READBLOCK out of turn (10 R14). -/
theorem execSeqReadblock_notInProgress {s : State}
    (h : ∀ p d b buf below, s.reg.spc ≠ .readblock p d b buf :: below) :
    execSeqReadblock s = .fault .notInProgress := by
  unfold execSeqReadblock
  split
  case h_13 => rfl
  all_goals next hs => exact (h _ _ _ _ _ hs).elim

theorem execSeqReadblock_inert : OriginInert execSeqReadblock := by
  intro s o
  by_cases h : ∀ p d b buf below, s.reg.spc ≠ .readblock p d b buf :: below
  case pos =>
    rw [execSeqReadblock_notInProgress h, execSeqReadblock_notInProgress (s := s.setOrigin o) h]
    rfl
  push Not at h
  obtain ⟨p, d, b, buf, below, hs⟩ := h
  cases p <;> simp only [execSeqReadblock, State.setOrigin_spc, State.setOrigin_ret, State.setOrigin_geomOf, hs]
  case start =>
    rw [xlate_setOrigin]
    cases xlate b.toNat (s.geomOf d).heads (s.geomOf d).sectors s <;> rfl
  case seeking | sending | waiting => split <;> rfl
  case draining =>
    split
    · rfl
    · rw [stepEight_setOrigin]; rfl
  case copying | seekAborting | resetting => exact returnTo_setOrigin ..
  case rehoming =>
    by_cases htries : s.reg.tries.toNat < maxTries
    · rw [if_pos htries]
      exact if_pos htries
    · rw [if_neg htries]
      exact (if_neg htries).trans (returnTo_setOrigin ..)
  case spinning | programmed | quieting => rfl

theorem execSeqCopyblk_inert : OriginInert execSeqCopyblk := by
  intro s o
  simp only [execSeqCopyblk, State.setOrigin_spc]
  split
  case h_3 =>
    change (if (s.reg.ci + 1).toNat < blockSize then _ else _) = _
    split
    · rfl
    · exact returnTo_setOrigin (s.turned { s.reg with ci := s.reg.ci + 1 }) ..
  all_goals rfl

-- The drive state machine (44 R130 to R134)

theorem execSeqMotoron_inert : OriginInert execSeqMotoron := by
  intro s o
  simp only [execSeqMotoron, State.setOrigin_spc]
  split
  case h_2 => exact returnTo_setOrigin ..
  all_goals rfl

theorem execSeqMotoroff_inert : OriginInert execSeqMotoroff := by
  intro s o
  simp only [execSeqMotoroff, State.setOrigin_spc]
  split
  case h_2 => exact returnTo_setOrigin ..
  all_goals rfl

theorem execSeqRecalibrate_inert : OriginInert execSeqRecalibrate := by
  intro s o
  simp only [execSeqRecalibrate, State.setOrigin_spc, State.setOrigin_ret]
  split
  case h_3 => split <;> rfl
  case h_4 =>
    split
    · rfl
    · rw [confirmCylinder_setOrigin]; rfl
  case h_5 => exact returnTo_setOrigin ..
  all_goals rfl

theorem execSeqSeekcyl_inert : OriginInert execSeqSeekcyl := by
  intro s o
  simp only [execSeqSeekcyl, State.setOrigin_spc, State.setOrigin_ret, State.setOrigin_drv, confirmCylinder_setOrigin]
  split
  case h_1 =>
    split
    · exact returnTo_setOrigin ..
    · rfl
  case h_2 =>
    split
    · exact returnTo_setOrigin ..
    · rfl
  case h_3 =>
    split
    · exact returnTo_setOrigin ..
    · split
      · exact raiseFail_setOrigin ..
      · exact returnTo_setOrigin ..
  case h_4 => rfl

theorem execSeqResetseq_inert : OriginInert execSeqResetseq := by
  intro s o
  simp only [execSeqResetseq, State.setOrigin_spc, State.setOrigin_ret]
  split
  case h_6 => split <;> exact returnTo_setOrigin ..
  all_goals rfl

-- WAIT (42 R112)

theorem execSeqWait_inert : OriginInert execSeqWait := by
  intro s o
  simp only [execSeqWait, State.setOrigin_spc, State.setOrigin_ret]
  split
  case h_1 => exact congrArg _ (waitPoll_setOrigin (s.turned { s.reg with wcnt := 0 }) ..)
  case h_2 => exact waitMissed_setOrigin ..
  case h_4 =>
    split
    · exact raiseFail_setOrigin ..
    · rfl
  case h_5 =>
    split
    · exact raiseFail_setOrigin ..
    · rw [keepStatus_setOrigin]; exact returnTo_setOrigin ..
  all_goals rfl

-- The byte protocol (41 R100 to R103)

theorem execSeqSendframe_inert : OriginInert execSeqSendframe := by
  intro s o
  simp only [execSeqSendframe, State.setOrigin_spc, State.setOrigin_ret]
  split
  case h_1 => exact sendLoop_setOrigin (s.turned { s.reg with fi := 0 }) ..
  case h_2 =>
    split
    · exact returnTo_setOrigin ..
    · exact sendLoop_setOrigin (s.turned { s.reg with fi := s.reg.fi + 1 }) ..
  case h_3 => rfl

theorem execSeqGetframe_inert : OriginInert execSeqGetframe := by
  intro s o
  simp only [execSeqGetframe, State.setOrigin_spc, State.setOrigin_ret]
  split
  case h_1 => exact getLoop_setOrigin (s.turned { s.reg with fi := 0 }) ..
  case h_2 =>
    split
    · exact returnTo_setOrigin ..
    · exact getLoop_setOrigin (s.turned { s.reg with
        rf := s.reg.rf.setIfInBounds s.reg.fi.toNat s.reg.rb, fi := s.reg.fi + 1 }) ..
  case h_3 => rfl

theorem execSeqSendbyte_inert : OriginInert execSeqSendbyte := by
  intro s o
  simp only [execSeqSendbyte, State.setOrigin_spc]
  split
  case h_1 => exact congrArg _ (readStatus_setOrigin (s.turned { s.reg with pcnt := 0 }) ..)
  case h_2 => exact congrArg _ (sendTest_setOrigin ..)
  case h_3 =>
    change (if s.reg.pcnt + 1 = s.cfg.pollLimit then _ else _) = _
    split
    · exact raiseFail_setOrigin (s.turned { s.reg with pcnt := s.reg.pcnt + 1 }) ..
    · exact congrArg _ (readStatus_setOrigin (s.turned { s.reg with pcnt := s.reg.pcnt + 1 }) ..)
  case h_4 => exact returnTo_setOrigin ..
  case h_5 => rfl

theorem execSeqGetbyte_inert : OriginInert execSeqGetbyte := by
  intro s o
  simp only [execSeqGetbyte, State.setOrigin_spc]
  split
  case h_1 => exact congrArg _ (readStatus_setOrigin (s.turned { s.reg with pcnt := 0 }) ..)
  case h_2 => exact congrArg _ (getTest_setOrigin ..)
  case h_3 =>
    change (if s.reg.pcnt + 1 = s.cfg.pollLimit then _ else _) = _
    split
    · exact raiseFail_setOrigin (s.turned { s.reg with pcnt := s.reg.pcnt + 1 }) ..
    · exact congrArg _ (readStatus_setOrigin (s.turned { s.reg with pcnt := s.reg.pcnt + 1 }) ..)
  case h_4 => exact returnTo_setOrigin ..
  case h_5 => rfl

-- The rows without a frame of their own

theorem execSeqXlate_inert (b : BitVec 32) (heads sectors : Byte) : OriginInert (execSeqXlate b heads sectors) := by
  intro s o
  unfold execSeqXlate
  rw [xlate_setOrigin]
  cases xlate b.toNat heads.toNat sectors.toNat s <;> rfl

theorem takeStatus_inert (v : Byte) : OriginInert (takeStatus v) := by
  intro s o
  simp only [takeStatus, State.setOrigin_spc]
  split
  case h_1 => exact congrArg _ (sendTest_setOrigin (s.turned { s.reg with msrv := v }) ..)
  case h_2 => exact congrArg _ (getTest_setOrigin (s.turned { s.reg with msrv := v }) ..)
  case h_3 => rfl

theorem execSt0Success_inert (others : BitVec 6) : OriginInert (execSt0Success others) := by
  intro s o
  simp only [execSt0Success, State.setOrigin_spc, State.setOrigin_ret, State.setOrigin_drv, setDrv_setOrigin,
    stepEight_setOrigin]
  split
  · split <;> rfl
  · rfl

theorem execDriveTypeByte_inert (code0 code1 : BitVec 4) : OriginInert (execDriveTypeByte code0 code1) := by
  intro s o
  unfold execDriveTypeByte
  rw [detectDrive_setOrigin, detectDrive_setOrigin]
  rfl

/-- Every instruction but an accept leaves the field alone and does not look at it. -/
theorem exec_inert {i : Instr} (hhost : (encode i).1 ≠ .host) (hidle : i ≠ .seqIdle) : OriginInert (exec i) := by
  intro s o
  cases i with
  | hostOpen | hostClose | hostRead | hostWrite | hostSeek | illegalOp5 | illegalOp6 | illegalOp7
  | illegalRsv1 | illegalRsv2 | illegalRsv3 => exact absurd rfl hhost
  | seqIdle => exact absurd rfl hidle
  | fdcSenseInterruptStatus | fdcRecalibrate | fdcSeek | fdcRead =>
    simp only [exec, execFdcSenseInterruptStatus, execFdcRecalibrate, execFdcSeek, execFdcRead,
      State.setOrigin_currentDrive]
    rfl
  | fdcSisResult =>
    simp only [exec, execFdcSisResult, State.setOrigin_currentDrive]
    cases s.currentDrive <;> rfl
  | dorDisable | dorEnable | rateDefault =>
    simp only [exec, execDorDisable, execDorEnable, execRateDefault, State.setOrigin_currentDrive]
    rfl
  | fdcReadResult | dorRun0 | dorRun1 | dorStop0 | dorStop1 | seqInrange | seqIrq | seqPortWr | seqDmaProg | seqMemRd
  | seqMemWr => rfl
  | msrSendReady => exact takeStatus_inert _ s o
  | msrRecvReady => exact takeStatus_inert _ s o
  | st0Success => exact execSt0Success_inert _ s o
  | driveTypeByte => exact execDriveTypeByte_inert _ _ s o
  | seqXlate => exact execSeqXlate_inert _ _ _ s o
  | seqPortRd | seqPaceRd | seqCfgRd =>
    simp only [exec, execSeqPortRd, execSeqPaceRd, execSeqCfgRd, portRead_setOrigin, paceRead_setOrigin,
      cfgRead_setOrigin]
    rfl
  | seqInit => exact execSeqInit_inert s o
  | seqOpen => exact execSeqOpen_inert s o
  | seqClose => exact execSeqClose_inert s o
  | seqRead => exact execSeqRead_inert s o
  | seqWrite => exact execSeqWrite_inert s o
  | seqSeek => exact execSeqSeek_inert s o
  | seqIllegal => exact execSeqIllegal_inert s o
  | seqReadblock => exact execSeqReadblock_inert s o
  | seqCopyblk => exact execSeqCopyblk_inert s o
  | seqMotoron => exact execSeqMotoron_inert s o
  | seqMotoroff => exact execSeqMotoroff_inert s o
  | seqRecalibrate => exact execSeqRecalibrate_inert s o
  | seqSeekcyl => exact execSeqSeekcyl_inert s o
  | seqResetseq => exact execSeqResetseq_inert s o
  | seqWait => exact execSeqWait_inert s o
  | seqSendframe => exact execSeqSendframe_inert s o
  | seqGetframe => exact execSeqGetframe_inert s o
  | seqSendbyte => exact execSeqSendbyte_inert s o
  | seqGetbyte => exact execSeqGetbyte_inert s o

/-- The latch of a host command with another origin. -/
theorem hostControl_setOrigin (op : BitVec 3) (h : BitVec 1) (o p : BitVec 2) :
    ((hostControl op h p).extractLsb' 6 2 ++ o : BitVec 4) ++ (hostControl op h p).extractLsb' 0 4
      = hostControl op h o := by
  revert op h o p
  decide

/-- Settles O55: an accept latches the origin and nothing else of it, every other instruction is inert. -/
theorem originFieldIsInert : Obligations.OriginFieldIsInert := by
  intro i s h o p a b
  refine ⟨fun hs => ?accept, fun hhost hidle => exec_inert hhost hidle s o⟩
  have hidle : s.idle = true := by simp [State.idle, hs]
  simp only [exec, execHostSeek, accept, hidle, if_true]
  rw [← hostControl_setOrigin 4 h o p]
  rfl

end Sys2Proof.Machine
end

section
/-! PROOF. The leaf sequences (40 R90 to R96): one interface event each, and the outcome handed on. -/

namespace Sys2Proof.Machine

-- The environment's answer (00 R9, 10 R26)

theorem answer_of_script {s : State} {v : Byte} {rest : List Byte} (h : s.env.answers = v :: rest) :
    answer s = (v, { s with env := { s.env with answers := rest } }) := by
  simp only [answer, h]

theorem answer_of_no_script {s : State} (h : s.env.answers = []) :
    answer s = (Config.freeByte s.env.freeCtr, { s with env := { s.env with freeCtr := s.env.freeCtr + 1 } }) := by
  simp only [answer, h]

-- A recorded event with its outcome handed on

/-- An event that draws no answer. -/
theorem handOn_emit (o : SeqOutcome) (e : Event) (s : State) :
    handOn o (emit e s) = s.did e { s.reg with ret := o } := rfl

/-- An event that draws an answer: the three reads record theirs after the draw, which leaves the
configuration, the registers and the earlier events. -/
theorem handOn_emit_answer (o : SeqOutcome) (e : Event) (s : State) :
    handOn o (emit e (answer s).2) = s.didRead e { s.reg with ret := o } := by
  rw [handOn_emit]
  simp only [State.did, State.didRead, answer_cfg, answer_reg, answer_trace]

/-- A port write keeps its shadow beside the outcome. -/
theorem handOn_portWrite (o : SeqOutcome) (a : Port) (v : Byte) (s : State) :
    handOn o (portWrite a v s) = s.did (.ioWrite a v) { s.shadowed a v with ret := o } := rfl

/-- Settles O29: three sequences draw an answer, and the other four record an event of their operands. -/
theorem leafSequencesAreOneEvent : Obligations.LeafSequencesAreOneEvent := by
  intro s p v i ch a len rest
  refine ⟨answer_of_script, answer_of_no_script, ?portWr, ?portRd, ?paceRd, ?dmaProg, ?cfgRd, ?memRd, ?memWr⟩
  case portWr => exact congrArg Host.Outcome.next (handOn_portWrite .ok p v s)
  case portRd => exact congrArg Host.Outcome.next (handOn_emit_answer _ (.ioRead p (answer s).1) s)
  case paceRd => exact congrArg Host.Outcome.next (handOn_emit_answer .ok (.ioRead s.cfg.pacePort (answer s).1) s)
  case cfgRd => exact congrArg Host.Outcome.next (handOn_emit_answer _ (.cfgRead i (answer s).1) s)
  case dmaProg => exact congrArg Host.Outcome.next (handOn_emit .ok (.dmaProgram ch a len)
      { s with env := { s.env with dma := some ⟨ch, a, len⟩ } })
  case memRd => exact congrArg Host.Outcome.next (handOn_emit _ (.memRead a (s.sysByte a)) s)
  case memWr => exact congrArg Host.Outcome.next (handOn_emit .ok (.memWrite a v) (s.setSys a v))

end Sys2Proof.Machine
end

section
/-! PROOF. The byte protocol (41 R100 to R104): the four sequences place by place, and the end of a byte primitive's polling. -/

namespace Sys2Proof.Machine

-- The reads of a byte primitive, and its test (30 R72, 41 R100, R101)

/-- A status read draws the answer into `MSRV` and records its event. -/
theorem readStatus_turned (d : DriveId) (l : List Frame) (s : State) (r : Regs) :
    readStatus d l (s.turned r) = s.didRead (.ioRead (msrPort s.cfg d) (answer s).1)
      { r with msrv := (answer s).1, spc := l } := by
  rw [readStatus, portRead_turned]
  rfl

/-- A discard read draws an answer that no register takes. -/
theorem paceRead_withSpc (l : List Frame) (s : State) :
    (paceRead s).withSpc l = s.didRead (.ioRead s.cfg.pacePort (answer s).1) { s.reg with spc := l } :=
  congrArg (fun r : Byte × State => r.2.withSpc l) (portRead_turned s.cfg.pacePort s s.reg)

theorem sendReady_iff (c : Config) (v : Byte) :
    sendReady c v = true ↔ v &&& (c.msrRqm ||| c.msrDio) = c.msrRqm := beq_iff_eq

theorem recvReady_iff (c : Config) (v : Byte) :
    recvReady c v = true ↔ v &&& (c.msrRqm ||| c.msrDio) = c.msrRqm ||| c.msrDio := beq_iff_eq

/-- Settles O25, place by place; the test splits on the send condition, the discard read on the budget. -/
theorem sendbytePollsThenWrites : Obligations.SendbytePollsThenWrites := by
  intro s d v below msr data ready status
  refine ⟨fun hs => ?start, fun hs hready => ?send, fun hs hbusy => ?pace, fun hs hmore => ?again,
    fun hs hlast hcaller => ?timeout, fun hs hcaller => ?moved⟩ <;>
    rw [exec, execSeqSendbyte, hs]
  case start => exact congrArg _ (readStatus_turned d _ s { s.reg with pcnt := 0 })
  case send => exact congrArg _ (if_pos ((sendReady_iff ..).mpr hready))
  case pace =>
    exact congrArg _ ((if_neg (mt (sendReady_iff ..).mp hbusy)).trans (paceRead_withSpc _ s))
  case again =>
    exact (if_neg hmore).trans
      (congrArg _ (readStatus_turned d _ s { s.reg with pcnt := s.reg.pcnt + 1 }))
  case timeout =>
    rw [← hlast]
    exact (if_pos rfl).trans (raiseFail_next hcaller .byteTimeout _)
  case moved => exact returnTo_next hcaller .ok s

/-- Settles O26, place by place; the test splits on the receive condition, the discard read on the budget. -/
theorem getbytePollsThenReads : Obligations.GetbytePollsThenReads := by
  intro s d below msr data ready status
  refine ⟨fun hs => ?start, fun hs hready => ?get, fun hs hbusy => ?pace, fun hs hmore => ?again,
    fun hs hlast hcaller => ?timeout, fun hs hcaller => ?moved⟩ <;>
    rw [exec, execSeqGetbyte, hs]
  case start => exact congrArg _ (readStatus_turned d _ s { s.reg with pcnt := 0 })
  case get =>
    refine congrArg _ ((if_pos ((recvReady_iff ..).mpr hready)).trans ?_)
    have hread : portRead data s = ((answer s).1, s.didRead (.ioRead data (answer s).1) s.reg) :=
      portRead_turned data s s.reg
    exact congrArg (fun r : Byte × State =>
      r.2.turned { r.2.reg with rb := r.1, spc := .getbyte .moved d :: below }) hread
  case pace =>
    exact congrArg _ ((if_neg (mt (recvReady_iff ..).mp hbusy)).trans (paceRead_withSpc _ s))
  case again =>
    exact (if_neg hmore).trans
      (congrArg _ (readStatus_turned d _ s { s.reg with pcnt := s.reg.pcnt + 1 }))
  case timeout =>
    rw [← hlast]
    exact (if_pos rfl).trans (raiseFail_next hcaller .byteTimeout _)
  case moved => exact returnTo_next hcaller _ s

-- The frames: the head of each loop, and the place after a byte (41 R102, R103)

theorem SendLen.bytes_le_nine (n : SendLen) : n.bytes ≤ 9 := by cases n <;> decide
theorem GetLen.bytes_le_seven (n : GetLen) : n.bytes ≤ 7 := by cases n <;> decide

/-- `FI` has room for the longest frame, so counting a byte does not wrap (10 R16). -/
theorem toNat_fi_succ {fi : BitVec 4} (h : fi.toNat < 9) : (fi + 1).toNat = fi.toNat + 1 := by
  have hone : (1 : BitVec 4).toNat = 1 := rfl
  rw [BitVec.toNat_add, hone]
  omega

theorem fbAt_eq_getElem (s : State) (i : Fin 9) : fbAt s i.val = s.reg.fb[i] := dif_pos i.isLt

/-- While bytes are left the loop calls SENDBYTE for the next one. -/
theorem sendLoop_next {d : DriveId} {n : SendLen} {below : List Frame} {u : State} (i : Fin 9)
    (hi : u.reg.fi.toNat = i.val) (hn : i.val < n.bytes) :
    sendLoop d n below u =
      .next (u.withSpc (.sendbyte .start d u.reg.fb[i] :: .sendframe .moving d n :: below)) := by
  rw [sendLoop, if_pos (hi ▸ hn), hi, fbAt_eq_getElem]

/-- The loop ends with `Ok` when every byte has been sent. -/
theorem sendLoop_done {d : DriveId} {n : SendLen} {below : List Frame} {u : State}
    (hn : u.reg.fi.toNat = n.bytes) : sendLoop d n below u = returnTo below .ok u :=
  if_neg (Nat.not_lt.mpr (Nat.le_of_eq hn.symm))

theorem getLoop_next {d : DriveId} {n : GetLen} {below : List Frame} {u : State}
    (hn : u.reg.fi.toNat < n.bytes) :
    getLoop d n below u = .next (u.withSpc (.getbyte .start d :: .getframe .moving d n :: below)) :=
  if_pos hn

theorem getLoop_done {d : DriveId} {n : GetLen} {below : List Frame} {u : State}
    (hn : u.reg.fi.toNat = n.bytes) : getLoop d n below u = returnTo below .ok u :=
  if_neg (Nat.not_lt.mpr (Nat.le_of_eq hn.symm))

/-- A failed byte ends the frame with its cause. -/
theorem execSeqSendframe_failed {s : State} {d : DriveId} {n : SendLen} {below : List Frame} {c : Cause}
    (hs : s.reg.spc = .sendframe .moving d n :: below) (hret : s.reg.ret = .fail c) :
    execSeqSendframe s = returnTo below (.fail c) s := by
  simp only [execSeqSendframe, hs, hret]

/-- A byte sent is counted, and the loop goes on. -/
theorem execSeqSendframe_moved {s : State} {d : DriveId} {n : SendLen} {below : List Frame}
    (hs : s.reg.spc = .sendframe .moving d n :: below) (hret : ∀ c, s.reg.ret ≠ .fail c) :
    execSeqSendframe s = sendLoop d n below (s.turned { s.reg with fi := s.reg.fi + 1 }) := by
  rw [execSeqSendframe, hs]
  dsimp only
  split
  · exact absurd ‹_› (hret _)
  · rfl

theorem execSeqGetframe_failed {s : State} {d : DriveId} {n : GetLen} {below : List Frame} {c : Cause}
    (hs : s.reg.spc = .getframe .moving d n :: below) (hret : s.reg.ret = .fail c) :
    execSeqGetframe s = returnTo below (.fail c) s := by
  simp only [execSeqGetframe, hs, hret]

/-- A byte received is kept at its place and counted, and the loop goes on. -/
theorem execSeqGetframe_moved {s : State} {d : DriveId} {n : GetLen} {below : List Frame}
    (hs : s.reg.spc = .getframe .moving d n :: below) (hret : ∀ c, s.reg.ret ≠ .fail c) (i : Fin 7)
    (hi : i.val = s.reg.fi.toNat) :
    execSeqGetframe s = getLoop d n below
      (s.turned { s.reg with rf := s.reg.rf.set i s.reg.rb, fi := s.reg.fi + 1 }) := by
  have hrf : s.reg.rf.setIfInBounds s.reg.fi.toNat s.reg.rb = s.reg.rf.set i s.reg.rb := by
    ext j hj
    rw [← hi, Vector.getElem_setIfInBounds, Vector.getElem_set]
  rw [execSeqGetframe, hs]
  dsimp only
  split
  · exact absurd ‹_› (hret _)
  · rw [hrf]
    rfl

/-- Settles O27: the head of the loop with `FI` 0, a failed byte, and a byte sent, more to come or the last. -/
theorem sendframeSendsEachByteOnce : Obligations.SendframeSendsEachByteOnce := by
  intro s d n below c
  refine ⟨fun hs => ?start, fun hs hret hcaller => ?failed, fun hs hret i hi hn => ?next,
    fun hs hret hn hcaller => ?last⟩
  case start =>
    rw [exec, execSeqSendframe, hs]
    exact sendLoop_next (u := s.turned { s.reg with fi := 0 }) 0 rfl n.bytes_pos
  case failed => exact (execSeqSendframe_failed hs hret).trans (returnTo_next hcaller ..)
  case next =>
    have hfi : (s.reg.fi + 1).toNat = i.val := by rw [toNat_fi_succ (by omega), hi]
    exact (execSeqSendframe_moved hs hret).trans (sendLoop_next i hfi hn)
  case last =>
    have hlen := n.bytes_le_nine
    have hfi : (s.reg.fi + 1).toNat = n.bytes := by rw [toNat_fi_succ (by omega), hn]
    exact (execSeqSendframe_moved hs hret).trans ((sendLoop_done hfi).trans (returnTo_next hcaller ..))

/-- Settles O28: the head of the loop with `FI` 0, a failed byte, and a byte kept, more to come or the last. -/
theorem getframeKeepsEachByte : Obligations.GetframeKeepsEachByte := by
  intro s d n below c
  refine ⟨fun hs => ?start, fun hs hret hcaller => ?failed, fun hs hret i hi hn => ?next,
    fun hs hret hcaller i hi hn => ?last⟩
  case start =>
    rw [exec, execSeqGetframe, hs]
    exact getLoop_next (u := s.turned { s.reg with fi := 0 }) n.bytes_pos
  case failed => exact (execSeqGetframe_failed hs hret).trans (returnTo_next hcaller ..)
  case next =>
    have hfi : (s.reg.fi + 1).toNat < n.bytes := by rwa [toNat_fi_succ (by omega), ← hi]
    exact (execSeqGetframe_moved hs hret i hi).trans (getLoop_next hfi)
  case last =>
    have hfi : (s.reg.fi + 1).toNat = n.bytes := by rwa [toNat_fi_succ (by omega), ← hi]
    exact (execSeqGetframe_moved hs hret i hi).trans ((getLoop_done hfi).trans (returnTo_next hcaller ..))

-- Runs of several steps

theorem runs_succ {s t : State} (k : Nat) (h : step s = .next t) : runs (k + 1) s = runs k t := by
  simp only [runs, Host.Core.run, core, h]

theorem runs_add {j k : Nat} {s t : State} (h : runs j s = .next t) : runs (j + k) s = runs k t := by
  induction j generalizing s with
  | zero =>
    cases h
    rw [Nat.zero_add]
  | succ j ih =>
    cases hstep : step s with
    | next u =>
      rw [Nat.succ_add, runs_succ _ hstep]
      exact ih ((runs_succ j hstep).symm.trans h)
    | fault r => simp [runs, Host.Core.run, core, hstep] at h
    | refused r => simp [runs, Host.Core.run, core, hstep] at h

/-- The machine runs, and only its sequencer moves. -/
structure SequencerOnly (s : State) : Prop where
  config : configOk s.cfg = true
  alone : s.alone

/-- `k` steps of the sequencer lead from `s` to `t`, each of them one event that leaves `CS`. -/
structure RunsEvents (k : Nat) (s t : State) : Prop where
  run : runs k s = .next t
  events : t.env.trace.length = s.env.trace.length + k
  cfg : t.cfg = s.cfg
  cs : t.reg.cs = s.reg.cs
  only : SequencerOnly t

namespace RunsEvents

variable {s t u : State} {j k : Nat} {f : Frame} {below : List Frame}

theorem trans (h : RunsEvents j s t) (h' : RunsEvents k t u) : RunsEvents (j + k) s u where
  run := (runs_add h.run).trans h'.run
  events := by rw [h'.events, h.events, Nat.add_assoc]
  cfg := h'.cfg.trans h.cfg
  cs := h'.cs.trans h.cs
  only := h'.only

/-- An instruction of the running sequence that makes an event is a whole step (00 R9). -/
theorem of_exec (hs : SequencerOnly s) (hspc : s.reg.spc = f :: below) (hx : exec f.instr s = .next t)
    (hf : f ≠ .idle := by simp) (event : ∃ e, t.env.trace = e :: s.env.trace := by simp)
    (cfg : t.cfg = s.cfg := by simp) (cs : t.reg.cs = s.reg.cs := by simp)
    (issue : t.env.issue = s.env.issue := by simp) (sched : t.env.sched = s.env.sched := by simp) :
    RunsEvents 1 s t := by
  obtain ⟨hconfig, hissue, hsched⟩ := hs
  obtain ⟨e, he⟩ := event
  have hbusy : s.reg.spc.head? ≠ some .idle := by simpa [hspc] using hf
  have hdone : stepDone s t = true := (stepDone_busy hbusy).mpr (.inl (by simp [he]))
  have hstep : step s = .next t := by
    rw [step_alone hconfig ⟨hissue, hsched⟩, sequencerStep_of_next (fetch_busy hspc hf) hx, if_pos hdone]
  exact ⟨runs_succ 0 hstep, by simp [he], cfg, cs, cfg ▸ hconfig, issue.trans hissue, sched.trans hsched⟩

end RunsEvents

-- The polling that SENDBYTE and GETBYTE share (41 R100, R101, R104)

/-- The next step from `s` reads the status for the poll that `p` discard reads came before. -/
def ReadsStatus (frame : BytePlace → Frame) (below : List Frame) (p : Nat) (s : State) : Prop :=
  ∃ t, RunsEvents 1 s t ∧ t.reg.spc = frame .tested :: below ∧ t.reg.pcnt = p

/-- How a byte primitive with the frames `frame` polls: a status read, a test that moves the byte or
makes a discard read, and another status read while the budget lasts. -/
structure Polls (frame : BytePlace → Frame) (below : List Frame) : Prop where
  start : ∀ {s : State}, SequencerOnly s → s.reg.spc = frame .start :: below → ReadsStatus frame below 0 s
  tested : ∀ {s : State}, SequencerOnly s → s.reg.spc = frame .tested :: below →
    ∃ t, RunsEvents 1 s t ∧ (t.reg.spc = frame .moved :: below
      ∨ t.reg.spc = frame .paced :: below ∧ t.reg.pcnt = s.reg.pcnt)
  paced : ∀ {s : State}, SequencerOnly s → s.reg.spc = frame .paced :: below →
    s.reg.pcnt + 1 ≠ s.cfg.pollLimit → ReadsStatus frame below (s.reg.pcnt + 1) s

theorem sendbyte_polls (d : DriveId) (v : Byte) (below : List Frame) :
    Polls (.sendbyte · d v) below where
  start {s} only hs := by
    obtain ⟨hstart, -⟩ := sendbytePollsThenWrites s d v below
    exact ⟨_, .of_exec only hs (hstart hs), rfl, rfl⟩
  tested {s} only hs := by
    obtain ⟨-, hsend, hpace, -⟩ := sendbytePollsThenWrites s d v below
    by_cases hready : s.reg.msrv &&& (s.cfg.msrRqm ||| s.cfg.msrDio) = s.cfg.msrRqm
    · exact ⟨_, .of_exec only hs (hsend hs hready), .inl rfl⟩
    · exact ⟨_, .of_exec only hs (hpace hs hready), .inr ⟨rfl, rfl⟩⟩
  paced {s} only hs hmore := by
    obtain ⟨-, -, -, hagain, -⟩ := sendbytePollsThenWrites s d v below
    exact ⟨_, .of_exec only hs (hagain hs hmore), rfl, rfl⟩

theorem getbyte_polls (d : DriveId) (below : List Frame) : Polls (.getbyte · d) below where
  start {s} only hs := by
    obtain ⟨hstart, -⟩ := getbytePollsThenReads s d below
    exact ⟨_, .of_exec only hs (hstart hs), rfl, rfl⟩
  tested {s} only hs := by
    obtain ⟨-, hget, hpace, -⟩ := getbytePollsThenReads s d below
    by_cases hready : s.reg.msrv &&& (s.cfg.msrRqm ||| s.cfg.msrDio) = s.cfg.msrRqm ||| s.cfg.msrDio
    · exact ⟨_, .of_exec only hs (hget hs hready), .inl rfl⟩
    · exact ⟨_, .of_exec only hs (hpace hs hready), .inr ⟨rfl, rfl⟩⟩
  paced {s} only hs hmore := by
    obtain ⟨-, -, -, hagain, -⟩ := getbytePollsThenReads s d below
    exact ⟨_, .of_exec only hs (hagain hs hmore), rfl, rfl⟩

/-- A well-formed configuration allows at least one poll (00 R6). -/
theorem one_le_pollLimit {c : Config} (hc : configOk c = true) : 1 ≤ c.pollLimit := by
  simp only [configOk, Bool.and_eq_true, decide_eq_true_eq] at hc
  obtain ⟨⟨⟨⟨⟨-, hpoll⟩, -⟩, -⟩, -⟩, -⟩ := hc
  exact hpoll

namespace Polls

variable {frame : BytePlace → Frame} {below : List Frame}

/-- The byte is moved, or the last discard read of the budget is done. -/
def Ended (frame : BytePlace → Frame) (below : List Frame) (limit : Nat) (t : State) : Prop :=
  t.reg.spc = frame .moved :: below ∨ (t.reg.spc = frame .paced :: below ∧ t.reg.pcnt + 1 = limit)

/-- From a status byte in hand with `n` polls of the budget after this one: its test, and two events for
each further poll. -/
theorem ends_of_tested (polls : Polls frame below) (n : Nat) {s : State} (only : SequencerOnly s)
    (hs : s.reg.spc = frame .tested :: below) (hn : s.reg.pcnt + 1 + n = s.cfg.pollLimit) :
    ∃ k t, k ≤ 2 * n + 1 ∧ RunsEvents k s t ∧ Ended frame below s.cfg.pollLimit t := by
  induction n generalizing s with
  | zero =>
    obtain ⟨t, hrun, hmoved | ⟨hpaced, hpcnt⟩⟩ := polls.tested only hs
    · exact ⟨1, t, le_rfl, hrun, .inl hmoved⟩
    · exact ⟨1, t, le_rfl, hrun, .inr ⟨hpaced, by rw [hpcnt]; exact hn⟩⟩
  | succ n ih =>
    obtain ⟨t, hrun, hmoved | ⟨hpaced, hpcnt⟩⟩ := polls.tested only hs
    · exact ⟨1, t, by omega, hrun, .inl hmoved⟩
    · have hlimit : t.cfg.pollLimit = s.cfg.pollLimit := congrArg Config.pollLimit hrun.cfg
      obtain ⟨u, hread, htested, hcount⟩ := polls.paced hrun.only hpaced (by omega)
      have hlimit' : u.cfg.pollLimit = s.cfg.pollLimit := (congrArg Config.pollLimit hread.cfg).trans hlimit
      obtain ⟨k, w, hk, hrest, hend⟩ := ih hread.only htested (by omega)
      exact ⟨1 + 1 + k, w, by omega, (hrun.trans hread).trans hrest, hlimit' ▸ hend⟩

/-- From the start: one status read more, so two events for each poll of the budget. -/
theorem ends_of_start (polls : Polls frame below) {s : State} (only : SequencerOnly s)
    (hs : s.reg.spc = frame .start :: below) :
    ∃ k t, k ≤ 2 * s.cfg.pollLimit ∧ RunsEvents k s t ∧ Ended frame below s.cfg.pollLimit t := by
  have hpos : 1 ≤ s.cfg.pollLimit := one_le_pollLimit only.config
  obtain ⟨t, hread, htested, hcount⟩ := polls.start only hs
  have hlimit : t.cfg.pollLimit = s.cfg.pollLimit := congrArg Config.pollLimit hread.cfg
  obtain ⟨k, u, hk, hrest, hend⟩ :=
    polls.ends_of_tested (s.cfg.pollLimit - 1) hread.only htested (by omega)
  exact ⟨1 + k, u, by omega, hread.trans hrest, hlimit ▸ hend⟩

end Polls

/-- Settles O57: both primitives poll alike, and the budget bounds the polls. -/
theorem bytePrimitivesEnd : Obligations.BytePrimitivesEnd := by
  intro s d v below hconfig halone
  refine ⟨fun hs => ?send, fun hs => ?get⟩
  case send =>
    obtain ⟨k, t, hk, hrun, hend⟩ := (sendbyte_polls d v below).ends_of_start ⟨hconfig, halone⟩ hs
    exact ⟨k, t, hk, hrun.run, hrun.events, hrun.cs, hend⟩
  case get =>
    obtain ⟨k, t, hk, hrun, hend⟩ := (getbyte_polls d below).ends_of_start ⟨hconfig, halone⟩ hs
    exact ⟨k, t, hk, hrun.run, hrun.events, hrun.cs, hend⟩

end Sys2Proof.Machine
end

section
/-! PROOF. Interrupt synchronization (42 R110 to R114): IrqFire, WAIT place by place, and the polls without an interrupt. -/

namespace Sys2Proof.Machine

-- IrqFire (42 R110)

/-- Settles O23, by the value of `IE`. -/
theorem irqFireSetsOnlyTheSignal : Obligations.IrqFireSetsOnlyTheSignal := by
  intro s
  refine ⟨fun hie => ?enabled, fun hie => ?masked⟩ <;> rw [exec, execSeqIrq, hie] <;> rfl

-- WAIT at its places (42 R112)

/-- A poll with `WCNT` at `w` consumes a signal, or leaves it 0. -/
theorem waitPoll_turned (d : DriveId) (below : List Frame) (s : State) (w : Nat) :
    waitPoll d below (s.turned { s.reg with wcnt := w }) =
      if s.reg.cs = true then
        s.did (.pollCS true) { s.reg with wcnt := w, cs := false, spc := .wait .signalled d :: below }
      else s.did (.pollCS false) { s.reg with wcnt := w, spc := .wait .missed d :: below } := by
  rcases waitPoll_cases d below (s.turned { s.reg with wcnt := w }) with ⟨hcs, h⟩ | ⟨hcs, h⟩ <;>
    rw [h, hcs] <;> rw [State.turned_reg] at hcs
  · exact (if_pos hcs).symm
  · exact (if_neg (Bool.eq_false_iff.mp hcs)).symm

theorem waitMissed_unlimited {d : DriveId} {below : List Frame} {s : State} (h : s.cfg.waitLimit = none) :
    waitMissed d below s = .next (waitPoll d below s) := by
  simp only [waitMissed, h]

/-- Under a limit not yet reached the poll of 0 is counted and the next one made. -/
theorem waitMissed_counted {d : DriveId} {below : List Frame} {s : State} {l : Nat}
    (h : s.cfg.waitLimit = some l) (hl : s.reg.wcnt + 1 ≠ l) :
    waitMissed d below s =
      .next (waitPoll d below (s.turned { s.reg with wcnt := s.reg.wcnt + 1 })) := by
  simp only [waitMissed, h]
  exact if_neg hl

/-- The poll of 0 that reaches the limit raises LOST_INTERRUPT. -/
theorem waitMissed_lost {d : DriveId} {below : List Frame} {s : State} {l : Nat}
    (h : s.cfg.waitLimit = some l) (hl : s.reg.wcnt + 1 = l) :
    waitMissed d below s =
      raiseFail .lostInterrupt below (s.turned { s.reg with wcnt := s.reg.wcnt + 1 }) := by
  simp only [waitMissed, h]
  exact if_pos hl

theorem execSeqWait_missed {s : State} {d : DriveId} {below : List Frame}
    (hs : s.reg.spc = .wait .missed d :: below) : execSeqWait s = waitMissed d below s := by
  rw [execSeqWait, hs]

/-- SENSE INTERRUPT STATUS is one byte of `FB` (30 R67). -/
theorem callSend_sense (d : DriveId) (l : List Frame) (s : State) :
    callSend d .one (senseFrame s.cfg) l s = s.turned { s.reg with
      fb := s.reg.fb.set 0 s.cfg.opcSensei, spc := .sendframe .start d .one :: l } := by
  rw [callSend, senseFrame, loadFrame_cons (by decide)]
  rfl

theorem keepStatus_eq_turned (d : DriveId) (s : State) :
    keepStatus d s =
      s.turned (s.reg.setDrv d { s.drv d with st0 := s.reg.rf[0], rcyl := s.reg.rf[1] }) := by
  cases d <;> rfl

/-- A failed exchange of the status fetch ends WAIT with its cause. -/
theorem execSeqWait_failed {s : State} {d : DriveId} {below : List Frame} {c : Cause}
    (hs : s.reg.spc = .wait .sending d :: below ∨ s.reg.spc = .wait .getting d :: below)
    (hret : s.reg.ret = .fail c) : execSeqWait s = raiseFail c below s := by
  rcases hs with hs | hs <;> simp only [execSeqWait, hs, hret]

/-- The frame sent, the two-byte result is received. -/
theorem execSeqWait_sent {s : State} {d : DriveId} {below : List Frame}
    (hs : s.reg.spc = .wait .sending d :: below) (hret : ∀ c, s.reg.ret ≠ .fail c) :
    execSeqWait s = .next (s.withSpc (.getframe .start d .two :: .wait .getting d :: below)) := by
  rw [execSeqWait, hs]
  dsimp only
  split
  · exact absurd ‹_› (hret _)
  · rfl

/-- The result received, it is kept and WAIT returns `Ok`. -/
theorem execSeqWait_received {s : State} {d : DriveId} {below : List Frame}
    (hs : s.reg.spc = .wait .getting d :: below) (hret : ∀ c, s.reg.ret ≠ .fail c) :
    execSeqWait s = returnTo below .ok (keepStatus d s) := by
  rw [execSeqWait, hs]
  dsimp only
  split
  · exact absurd ‹_› (hret _)
  · rfl

/-- Settles O24, place by place; after a poll of 0 it splits on the limit. -/
theorem waitConsumesTheSignalAndFetchesStatus : Obligations.WaitConsumesTheSignalAndFetchesStatus := by
  intro s d below c l good raises poll
  have polls (w : Nat) : .next (waitPoll d below (s.turned { s.reg with wcnt := w })) = poll w :=
    (congrArg _ (waitPoll_turned d below s w)).trans (apply_ite ..)
  refine ⟨fun hs => ?start, fun hs hlimit => ?unlimited, fun hs hlimit hmore => ?counted,
    fun hs hlimit hlast hcaller => ?lost, fun hs => ?signalled, fun hs hret => ?sent,
    fun hs hret hcaller => ?failed, fun hs hret hcaller => ?received⟩
  case start =>
    rw [exec, execSeqWait, hs]
    exact polls 0
  case unlimited => exact (execSeqWait_missed hs).trans ((waitMissed_unlimited hlimit).trans (polls _))
  case counted => exact (execSeqWait_missed hs).trans ((waitMissed_counted hlimit hmore).trans (polls _))
  case lost =>
    rw [exec, execSeqWait_missed hs, waitMissed_lost hlimit hlast, raiseFail_next hcaller, hlast]
    rfl
  case signalled =>
    rw [exec, execSeqWait, hs]
    exact congrArg _ (callSend_sense d _ s)
  case sent => exact execSeqWait_sent hs hret
  case failed => exact (execSeqWait_failed hs hret).trans (raiseFail_next hcaller c s)
  case received =>
    rw [exec, execSeqWait_received hs hret, keepStatus_eq_turned]
    exact returnTo_next hcaller ..

-- Polling without an interrupt (42 R112, R114)

/-- `s` after `n` polls of 0, with `WCNT` at `w`. -/
def State.missed (s : State) (d : DriveId) (below : List Frame) (n w : Nat) : State where
  cfg := s.cfg
  reg := { s.reg with wcnt := w, spc := .wait .missed d :: below }
  env := { s.env with trace := List.replicate n (.pollCS false) ++ s.env.trace }

section Missed

variable {s : State} {d : DriveId} {below : List Frame} {p : WaitPlace} {r : Result} {l n w : Nat}

@[simp] theorem State.missed_cfg : (s.missed d below n w).cfg = s.cfg := rfl
@[simp] theorem State.missed_reg :
    (s.missed d below n w).reg = { s.reg with wcnt := w, spc := .wait .missed d :: below } := rfl
@[simp] theorem State.missed_env : (s.missed d below n w).env =
    { s.env with trace := List.replicate n (.pollCS false) ++ s.env.trace } := rfl

/-- Polls that WAIT does not count change no register between them. -/
theorem State.missed_uncounted (hs : s.reg.spc = .wait .missed d :: below) (n : Nat) :
    s.missed d below n s.reg.wcnt =
      { s with env := { s.env with trace := List.replicate n (.pollCS false) ++ s.env.trace } } := by
  rw [State.missed, ← hs]

/-- With `CS` 0 a poll of WAIT is a whole step, and a poll of 0. -/
theorem runsEvents_poll (only : SequencerOnly s) (hcs : s.reg.cs = false)
    (hs : s.reg.spc = .wait p d :: below)
    (hpoll : exec .seqWait s = if s.reg.cs = true then r else .next (s.missed d below 1 w)) :
    RunsEvents 1 s (s.missed d below 1 w) :=
  .of_exec only hs (hpoll.trans (if_neg (Bool.eq_false_iff.mp hcs)))

/-- Without a limit each poll of 0 is followed by another one, uncounted. -/
theorem runsEvents_missed_unlimited (only : SequencerOnly s) (hcs : s.reg.cs = false)
    (hlimit : s.cfg.waitLimit = none) (hs : s.reg.spc = .wait .missed d :: below) (n : Nat) :
    RunsEvents n s (s.missed d below n s.reg.wcnt) := by
  induction n with
  | zero => exact (State.missed_uncounted hs 0).symm ▸ ⟨rfl, rfl, rfl, rfl, only⟩
  | succ n ih =>
    obtain ⟨-, hagain, -⟩ :=
      waitConsumesTheSignalAndFetchesStatus (s.missed d below n s.reg.wcnt) d below .lostInterrupt 0
    exact ih.trans (runsEvents_poll ih.only hcs rfl (hagain rfl hlimit))

/-- Under the limit `l + 1` the first poll and each counted one are polls of 0, up to `WCNT` at `l`. -/
theorem runsEvents_missed_limited (only : SequencerOnly s) (hcs : s.reg.cs = false)
    (hlimit : s.cfg.waitLimit = some (l + 1)) (hs : s.reg.spc = .wait .start d :: below) (hn : n ≤ l) :
    RunsEvents (n + 1) s (s.missed d below (n + 1) n) := by
  induction n with
  | zero =>
    obtain ⟨hstart, -⟩ := waitConsumesTheSignalAndFetchesStatus s d below .lostInterrupt 0
    exact runsEvents_poll only hcs hs (hstart hs)
  | succ n ih =>
    have hrun := ih (Nat.le_of_succ_le hn)
    have hmore : n + 1 ≠ l + 1 := by omega
    obtain ⟨-, -, hcount, -⟩ :=
      waitConsumesTheSignalAndFetchesStatus (s.missed d below (n + 1) n) d below .lostInterrupt (l + 1)
    exact hrun.trans (runsEvents_poll hrun.only hcs rfl (hcount rfl hlimit hmore))

end Missed

/-- Settles O58, by induction on the number of polls with and without a limit. -/
theorem waitPollsUntilItsLimit : Obligations.WaitPollsUntilItsLimit := by
  intro s d below l hconfig halone hcs polled
  refine ⟨fun hlimit hs n => ?unlimited, fun hlimit hs hcaller => ?limited⟩
  case unlimited =>
    exact State.missed_uncounted hs n ▸ (runsEvents_missed_unlimited ⟨hconfig, halone⟩ hcs hlimit hs n).run
  case limited =>
    have hrun := runsEvents_missed_limited ⟨hconfig, halone⟩ hcs hlimit hs (Nat.le_refl l)
    obtain ⟨-, -, -, hlost, -⟩ :=
      waitConsumesTheSignalAndFetchesStatus (s.missed d below (l + 1) l) d below .lostInterrupt (l + 1)
    exact ⟨_, hrun.run, rfl, rfl, rfl, hlost rfl hlimit rfl hcaller⟩

end Sys2Proof.Machine
end

section
/-! PROOF. The geometry translator (43 R120 to R125): XLATE and INRANGE, the round trip, and the bounds for a block in range. -/

namespace Sys2Proof.Machine

-- XLATE (43 R120) and INRANGE (43 R121)

theorem execSeqXlate_next {b : BitVec 32} {h n : Byte} {s : State} (hh : h.toNat ≠ 0) (hn : n.toNat ≠ 0) :
    execSeqXlate b h n s = .next (s.turned { s.reg with
      xc := BitVec.ofNat 32 (b.toNat / (n.toNat * h.toNat))
      xh := BitVec.ofNat 32 (b.toNat % (n.toNat * h.toNat) / n.toNat)
      xs := BitVec.ofNat 32 (b.toNat % n.toNat + 1)
      ret := .ok }) := by
  unfold execSeqXlate
  rcases xlate_cases b.toNat h.toNat n.toNat s with ⟨hzero, -⟩ | ⟨-, -, hx⟩
  · exact absurd hzero (not_or.mpr ⟨hh, hn⟩)
  · rw [hx]; rfl

/-- Settles O17: with nonzero divisors XLATE has its value, and INRANGE's bit decides the comparison. -/
theorem translatorComputesAddressAndRange : Obligations.TranslatorComputesAddressAndRange := by
  intro s b c h n
  refine ⟨fun hh hn => ?xlate, ?inrange⟩
  case xlate => exact execSeqXlate_next (BitVec.toNat_ne_iff_ne.mpr hh) (BitVec.toNat_ne_iff_ne.mpr hn)
  case inrange => simp only [exec, execSeqInrange, inrange, decide_eq_true_eq]; rfl

-- Cylinder, head and sector of a block index, as numbers (43 R122, R125)

section Address

variable {b c h n : Nat}

/-- A track's sectors divide a cylinder's, so head and sector are the two digits of the rest. -/
theorem address_recombines (b h n : Nat) : b / (n * h) * (h * n) + b % (n * h) / n * n + b % n = b := by
  calc b / (n * h) * (h * n) + b % (n * h) / n * n + b % n
      = n * h * (b / (n * h)) + (n * (b % (n * h) / n) + b % (n * h) % n) := by
        rw [Nat.mod_mul_right_mod]; ring
    _ = n * h * (b / (n * h)) + b % (n * h) := by rw [Nat.div_add_mod]
    _ = b := Nat.div_add_mod ..

theorem head_lt (hh : 0 < h) (hn : 0 < n) : b % (n * h) / n < h :=
  Nat.div_lt_of_lt_mul (Nat.mod_lt _ (Nat.mul_pos hn hh))

theorem cylinder_lt_of_inrange (hb : b < c * h * n) : b / (n * h) < c :=
  Nat.div_lt_of_lt_mul (by rwa [mul_comm, mul_comm n, ← mul_assoc])

end Address

-- The registers hold these numbers, and their low bytes (43 R123, R125)

/-- A quotient or remainder of a word fits the word's width. -/
theorem toNat_ofNat_of_le {w x : Nat} (b : BitVec w) (hx : x ≤ b.toNat) : (BitVec.ofNat w x).toNat = x :=
  BitVec.toNat_ofNat .. ▸ Nat.mod_eq_of_lt (hx.trans_lt b.isLt)

theorem xlate_results_toNat {b : BitVec 32} {h n : Byte} {s t : State} (hh : 1 ≤ h.toNat) (hn : 1 ≤ n.toNat)
    (hx : exec (.seqXlate b h n) s = .next t) :
    t.reg.xc.toNat = b.toNat / (n.toNat * h.toNat)
      ∧ t.reg.xh.toNat = b.toNat % (n.toNat * h.toNat) / n.toNat
      ∧ t.reg.xs.toNat = b.toNat % n.toNat + 1 := by
  rw [exec, execSeqXlate_next (Nat.one_le_iff_ne_zero.mp hh) (Nat.one_le_iff_ne_zero.mp hn)] at hx
  cases hx
  have hsector : b.toNat % n.toNat < n.toNat := Nat.mod_lt _ hn
  refine ⟨toNat_ofNat_of_le b (Nat.div_le_self ..), toNat_ofNat_of_le b ?head, ?sector⟩
  case head => exact (Nat.div_le_self ..).trans (Nat.mod_le ..)
  case sector => rw [State.turned_reg, BitVec.toNat_ofNat]; omega

theorem low_byte_toNat {x : BitVec 32} (hx : x.toNat < 256) : (x.extractLsb' 0 8).toNat = x.toNat := by
  rw [BitVec.extractLsb'_toNat]
  exact Nat.mod_eq_of_lt hx

/-- A head below 64 and a drive select share one byte: neither reaches the other's bits. -/
theorem head_select_toNat {x : BitVec 32} (hx : x.toNat < 64) (k : BitVec 2) :
    ((x <<< 2) ||| k.zeroExtend 32).toNat = x.toNat * 4 + k.toNat := by
  have hk : (k.zeroExtend 32).toNat = k.toNat := BitVec.toNat_setWidth_of_le (by decide)
  have hshift : (x <<< 2).toNat = x.toNat <<< 2 := by
    rw [BitVec.toNat_shiftLeft, Nat.shiftLeft_eq]
    omega
  rw [BitVec.toNat_or, hshift, hk, ← Nat.shiftLeft_add_eq_or_of_lt k.isLt, Nat.shiftLeft_eq]

/-- Settles O18: the registers hold the digits of the block index, each below its bound. -/
theorem translationRoundTripsAndFits : Obligations.TranslationRoundTripsAndFits := by
  intro s t b c h n k hc hh hheads hn hx
  obtain ⟨hxc, hxh, hxs⟩ := xlate_results_toNat hh hn hx
  have hhead : t.reg.xh.toNat < h.toNat := hxh ▸ head_lt hh hn
  have hsector : b.toNat % n.toNat < n.toNat := Nat.mod_lt _ hn
  refine ⟨?roundTrip, hhead, by omega, by omega, fun hb => ?fits⟩
  case roundTrip =>
    rw [hxc, hxh, hxs]
    exact address_recombines ..
  case fits =>
    have hcyl : t.reg.xc.toNat < c.toNat := hxc ▸ cylinder_lt_of_inrange hb
    have hbyte := head_select_toNat (hhead.trans_le hheads) k
    refine ⟨hcyl, low_byte_toNat (hcyl.trans_le hc), (low_byte_toNat ?_).trans hbyte⟩
    omega

end Sys2Proof.Machine
end

section
/-! PROOF. The drive state machine (44 R130 to R134): what the output-control writes make of the motor
lines, and the five sequences place by place. -/

namespace Sys2Proof.Machine

-- The motor lines under the default layout (30 R73, 10 R25)

/-- Under the default layout the output-control register of a drive is that of its own group alone. -/
theorem dorPort_eq_iff {c : Config} (layout : motorLayout c) (d : DriveId) (g : Group) :
    dorPort c d = groupBase c g + c.offDor ↔ group c d = g := by
  obtain ⟨-, -, -, hprimary, hsecondary, hdor, -⟩ := layout
  unfold dorPort portBase
  cases group c d <;> cases g <;> simp [groupBase, hprimary, hsecondary, hdor]

/-- A write to the output-control register of a drive is the shadow of its group, no other's. -/
theorem dorsh_write_dorPort {s : State} (layout : motorLayout s.cfg) (d : DriveId) (v : Byte) (g : Group) :
    (portWrite (dorPort s.cfg d) v s).dorsh g = if group s.cfg d = g then v else s.dorsh g := by
  simp only [State.dorsh_portWrite, dorPort_eq_iff layout]

/-- No data register is an output-control register, so a byte sent moves no shadow. -/
theorem dorsh_write_dataPort {s : State} (layout : motorLayout s.cfg) (d : DriveId) (v : Byte) :
    (portWrite (dataPort s.cfg d) v s).dorsh = s.dorsh := by
  obtain ⟨-, -, -, hprimary, hsecondary, hdor, -, hdata, -⟩ := layout
  funext g
  rw [State.dorsh_portWrite, if_neg]
  unfold dataPort portBase
  cases group s.cfg d <;> cases g <;> simp [groupBase, hprimary, hsecondary, hdor, hdata]

/-- No config-control register is an output-control register. -/
theorem dorsh_write_ccrPort {s : State} (layout : motorLayout s.cfg) (d : DriveId) (v : Byte) :
    (portWrite (ccrPort s.cfg d) v s).dorsh = s.dorsh := by
  obtain ⟨-, -, -, hprimary, hsecondary, hdor, -, -, hccr⟩ := layout
  funext g
  rw [State.dorsh_portWrite, if_neg]
  unfold ccrPort portBase
  cases group s.cfg d <;> cases g <;> simp [groupBase, hprimary, hsecondary, hdor, hccr]

/-- Under the default layout the motor lines are bits 7:4 of the register, in the order of the drives. -/
theorem motorMask_eq_shift {c : Config} (layout : motorLayout c) (k : BitVec 2) :
    motorMask c k = 0x10 <<< k.toNat := by
  obtain ⟨-, -, hmotor, -⟩ := layout
  obtain rfl | rfl | rfl | rfl := reservedBits_cases k <;> simp [motorMask, hmotor]

/-- `DOR_RUN(d)` drives the motor line of `d` (30 R73). -/
theorem dorRunByte_motor {c : Config} (layout : motorLayout c) (d : DriveId) :
    dorRunByte c d &&& motorMask c (dsel c d) ≠ 0 := by
  rw [dorRunByte, dselByte, motorMask_eq_shift layout]
  obtain ⟨hreset, hdma, -⟩ := layout
  rw [hreset, hdma]
  generalize dsel c d = k
  revert k
  decide

/-- `DOR_STOP(d)` drives no motor line (30 R73). -/
theorem dorStopByte_motor {c : Config} (layout : motorLayout c) (d : DriveId) (k : BitVec 2) :
    dorStopByte c d &&& motorMask c k = 0 := by
  rw [dorStopByte, dselByte, motorMask_eq_shift layout]
  obtain ⟨hreset, hdma, -⟩ := layout
  rw [hreset, hdma]
  generalize dsel c d = x
  revert x k
  decide

/-- `DOR_ENABLE` drives no motor line (30 R73). -/
theorem dorEnableByte_motor {c : Config} (layout : motorLayout c) (k : BitVec 2) :
    dorEnableByte c &&& motorMask c k = 0 := by
  rw [dorEnableByte, motorMask_eq_shift layout]
  obtain ⟨hreset, hdma, -⟩ := layout
  rw [hreset, hdma]
  revert k
  decide

/-- `DOR_DISABLE` drives no line at all (30 R73). -/
theorem dorDisableByte_motor (m : Byte) : dorDisableByte &&& m = 0 := BitVec.zero_and

/-- Settles O19: a write and a return; `DOR_RUN(d)` drives the line of `d`, `DOR_STOP(d)` none. -/
theorem motorSequencesWriteTheirByte : Obligations.MotorSequencesWriteTheirByte := by
  intro s d below a k run stop
  refine ⟨fun hs => ?on, fun hs => ?off, fun hs hcaller => ?onDone, fun hs hcaller => ?offDone,
    fun layout => ?lines⟩
  case on => rw [exec, execSeqMotoron, hs]; rfl
  case off => rw [exec, execSeqMotoroff, hs]; rfl
  case onDone => rw [exec, execSeqMotoron, hs]; exact returnTo_next hcaller .ok s
  case offDone => rw [exec, execSeqMotoroff, hs]; exact returnTo_next hcaller .ok s
  case lines =>
    have written (v : Byte) : State.dorsh { s with reg := s.shadowed a v } (group s.cfg d) = v :=
      (dorsh_write_dorPort layout d v _).trans (if_pos rfl)
    simp only [State.motorOn, State.motorLine, written, bne_iff_ne, bne_eq_false_iff_eq]
    exact ⟨dorRunByte_motor layout d, dorStopByte_motor layout d _⟩

-- RECALIBRATE (44 R132) and SEEKCYL (44 R133)

section Calls

variable {s : State} {d : DriveId} {t : Byte} {below : List Frame} {c : Cause}

/-- RECALIBRATE's frame is two bytes of `FB` (30 R68). -/
theorem callSend_recal (d : DriveId) (l : List Frame) (s : State) :
    callSend d .two (recalFrame s.cfg (dsel s.cfg d)) l s = s.turned { s.reg with
      fb := (s.reg.fb.set 0 s.cfg.opcRecal).set 1 ((dsel s.cfg d).zeroExtend 8)
      spc := .sendframe .start d .two :: l } := by
  rw [callSend, recalFrame, loadFrame_cons (by decide), loadFrame_cons (by decide)]
  rfl

/-- SEEK's frame is three bytes of `FB` (30 R69). -/
theorem callSend_seek (d : DriveId) (t : Byte) (l : List Frame) (s : State) :
    callSend d .three (seekFrame s.cfg (dsel s.cfg d) t) l s = s.turned { s.reg with
      fb := ((s.reg.fb.set 0 s.cfg.opcSeek).set 1 ((dsel s.cfg d).zeroExtend 8)).set 2 t
      spc := .sendframe .start d .three :: l } := by
  rw [callSend, seekFrame, loadFrame_cons (by decide), loadFrame_cons (by decide), loadFrame_cons (by decide)]
  rfl

theorem confirmCylinder_eq_turned (d : DriveId) (s : State) :
    confirmCylinder d s = s.turned (s.reg.setDrv d { s.drv d with curCyl := (s.drv d).rcyl }) := by
  cases d <;> rfl

/-- A frame not sent, or a WAIT that failed, sends RECALIBRATE to MOTOROFF with the failure. -/
theorem execSeqRecalibrate_failed
    (hs : s.reg.spc = .recalibrate .sending d :: below ∨ s.reg.spc = .recalibrate .waiting d :: below)
    (hret : s.reg.ret = .fail c) : execSeqRecalibrate s =
      .next (s.withSpc (.motoroff .start d :: .recalibrate (.stopping (.fail c)) d :: below)) := by
  rcases hs with hs | hs <;> simp only [execSeqRecalibrate, hs, hret]

/-- The frame sent, WAIT is called. -/
theorem execSeqRecalibrate_sent (hs : s.reg.spc = .recalibrate .sending d :: below)
    (hret : ∀ c, s.reg.ret ≠ .fail c) : execSeqRecalibrate s =
      .next (s.withSpc (.wait .start d :: .recalibrate .waiting d :: below)) := by
  simp only [execSeqRecalibrate, hs]

/-- The report received, the tracked cylinder takes it and MOTOROFF is called. -/
theorem execSeqRecalibrate_reported (hs : s.reg.spc = .recalibrate .waiting d :: below)
    (hret : ∀ c, s.reg.ret ≠ .fail c) : execSeqRecalibrate s =
      .next ((confirmCylinder d s).withSpc (.motoroff .start d :: .recalibrate (.stopping .ok) d :: below)) := by
  simp only [execSeqRecalibrate, hs]

theorem execSeqSeekcyl_start (hs : s.reg.spc = .seekcyl .start d t :: below) : execSeqSeekcyl s =
    if (s.drv d).curCyl = t then returnTo below .ok s
    else .next (callSend d .three (seekFrame s.cfg (dsel s.cfg d) t) (.seekcyl .sending d t :: below) s) := by
  rw [execSeqSeekcyl, hs]

/-- A frame not sent, or a WAIT that failed, ends SEEKCYL with its cause. -/
theorem execSeqSeekcyl_failed
    (hs : s.reg.spc = .seekcyl .sending d t :: below ∨ s.reg.spc = .seekcyl .waiting d t :: below)
    (hret : s.reg.ret = .fail c) : execSeqSeekcyl s = returnTo below (.fail c) s := by
  rcases hs with hs | hs <;> simp only [execSeqSeekcyl, hs, hret]

theorem execSeqSeekcyl_sent (hs : s.reg.spc = .seekcyl .sending d t :: below)
    (hret : ∀ c, s.reg.ret ≠ .fail c) : execSeqSeekcyl s =
      .next (s.withSpc (.wait .start d :: .seekcyl .waiting d t :: below)) := by
  simp only [execSeqSeekcyl, hs]

/-- The report received, the tracked cylinder takes it, and it is held against the target. -/
theorem execSeqSeekcyl_reported (hs : s.reg.spc = .seekcyl .waiting d t :: below)
    (hret : ∀ c, s.reg.ret ≠ .fail c) : execSeqSeekcyl s =
      if (s.drv d).rcyl ≠ t then raiseFail .seekVerify below (confirmCylinder d s)
      else returnTo below .ok (confirmCylinder d s) := by
  simp only [execSeqSeekcyl, hs]

end Calls

/-- Settles O20, place by place; after the frame and after WAIT it splits on the outcome. -/
theorem recalibrateRehomesAndStops : Obligations.RecalibrateRehomesAndStops := by
  intro s d below c r goes good stops
  refine ⟨fun hs => ?start, fun hs => ?spinning, execSeqRecalibrate_sent,
    fun hs => execSeqRecalibrate_failed (.inl hs), fun hs => execSeqRecalibrate_failed (.inr hs),
    fun hs hret => ?reported, fun hs hcaller => ?stopping⟩
  case start => rw [exec, execSeqRecalibrate, hs]; rfl
  case spinning => rw [exec, execSeqRecalibrate, hs]; exact congrArg _ (callSend_recal d _ s)
  case reported =>
    rw [exec, execSeqRecalibrate_reported hs hret, confirmCylinder_eq_turned]
    rfl
  case stopping => rw [exec, execSeqRecalibrate, hs]; exact returnTo_next hcaller r s

/-- Settles O21, place by place: the no-op test, a failed call, and the report held against the target. -/
theorem seekcylMovesAndVerifies : Obligations.SeekcylMovesAndVerifies := by
  intro s d t below c good moved
  refine ⟨fun hs hthere hcaller => ?noOp, fun hs haway => ?seek, execSeqSeekcyl_sent,
    fun hs hret hcaller => ?failed, fun hs hret heq hcaller => ?verified,
    fun hs hret hne hcaller => ?mismatch⟩ <;> rw [exec]
  case noOp => rw [execSeqSeekcyl_start hs, if_pos hthere, returnTo_next hcaller]
  case seek => rw [execSeqSeekcyl_start hs, if_neg haway, callSend_seek]
  case failed => rw [execSeqSeekcyl_failed hs hret, returnTo_next hcaller]
  case verified =>
    rw [execSeqSeekcyl_reported hs hret, if_neg (not_not.mpr heq), returnTo_next hcaller,
      confirmCylinder_eq_turned]
    rfl
  case mismatch =>
    rw [execSeqSeekcyl_reported hs hret, if_pos hne, raiseFail_next hcaller, confirmCylinder_eq_turned]
    simp only [State.turned_reg, Regs.setDrv_err]
    rfl

-- RESETSEQ (44 R134)

/-- The failure of step 3 is the outcome. -/
theorem execSeqResetseq_failed {s : State} {d : DriveId} {below : List Frame} {c : Cause}
    (hs : s.reg.spc = .resetseq (.homing (.fail c)) d :: below) :
    execSeqResetseq s = returnTo below (.fail c) s := by
  simp only [execSeqResetseq, hs]

/-- Without one, the outcome of step 5 is handed on. -/
theorem execSeqResetseq_homed {s : State} {d : DriveId} {below : List Frame} {r1 : SeqOutcome}
    (hs : s.reg.spc = .resetseq (.homing r1) d :: below) (hr : ∀ c, r1 ≠ .fail c) :
    execSeqResetseq s = returnTo below s.reg.ret s := by
  simp only [execSeqResetseq, hs]

/-- Settles O22, step by step; the last place splits on the outcome of step 3. -/
theorem resetseqRunsAllFiveSteps : Obligations.ResetseqRunsAllFiveSteps := by
  intro s d below r1 c dor ccr enable
  refine ⟨fun hs => ?disable, fun hs => ?enable, fun hs => ?selfTest, fun hs => ?rate, fun hs => ?home,
    fun hs hcaller => (execSeqResetseq_failed hs).trans (returnTo_next hcaller ..),
    fun hs hr hcaller => (execSeqResetseq_homed hs hr).trans (returnTo_next hcaller ..)⟩ <;>
    rw [exec, execSeqResetseq, hs] <;> rfl

end Sys2Proof.Machine
end

section
/-! PROOF. The motors (44 R135, 45 R156): every instruction keeps each running motor under a frame that will
turn it off, so that an idle block has none running. -/

namespace Sys2Proof.Machine

variable {s s' u : State} {f : Frame} {below l l' : List Frame}

-- The drives whose motor may run (44 R135)

/-- The drives that the frames of a stack keep a motor on for, and will turn off. -/
def motorGuards (l : List Frame) : List DriveId := l.filterMap mayRun

@[simp] theorem motorGuards_nil : motorGuards [] = [] := rfl

@[simp] theorem motorGuards_cons (f : Frame) (l : List Frame) :
    motorGuards (f :: l) = (mayRun f).toList ++ motorGuards l := by
  cases h : mayRun f <;> simp [motorGuards, h]

theorem mem_motorGuards {d : DriveId} : d ∈ motorGuards l ↔ ∃ f ∈ l, mayRun f = some d :=
  List.mem_filterMap

/-- Under the default layout a group has one base, so the guard of a line is a drive of the line's group. -/
theorem motorGuard_iff (layout : motorLayout s.cfg) :
    MotorGuard s ↔ ∀ g k, s.motorLine g k = true → ∃ d ∈ motorGuards s.reg.spc, group s.cfg d = g := by
  have hbase (d : DriveId) (g : Group) : groupBase s.cfg g = portBase s.cfg d ↔ group s.cfg d = g := by
    rw [← dorPort_eq_iff layout, dorPort, add_left_inj, eq_comm]
  simp only [MotorGuard, hbase, mem_motorGuards]
  exact forall₃_congr fun _ _ _ =>
    ⟨fun ⟨f, hf, d, hd, hg⟩ => ⟨d, ⟨f, hf, hd⟩, hg⟩, fun ⟨d, ⟨f, hf, hd⟩, hg⟩ => ⟨f, hf, d, hd, hg⟩⟩

/-- Nobody calls a frame of the bottom, and none of them has turned a motor on. -/
theorem mayRun_of_bottomOk (hf : bottomOk f = true) : mayRun f = none := by
  cases f with
  | idle | init | opOpen | opClose | opRead | opWrite | opSeek | opIllegal => rfl
  | _ => cases hf

/-- A caller of MOTORON will turn the motor off (44 R132, 45 R150). -/
theorem mayRun_of_calls_motoron {h : DriveId} {p : LeafPlace} {d : DriveId}
    (hc : callOk h (.motoron p d) f = true) : mayRun f = some d := by
  cases f with
  | readblock q e | recalibrate q e =>
    cases q <;> simp [callOk] at hc
    rw [hc, mayRun]
  | opOpen q | opClose q | opRead q | seekcyl q | resetseq q | wait q | sendframe q | getframe q =>
    cases q <;> cases hc
  | _ => cases hc

-- What an instruction makes of the motor lines and their guards

/-- What one instruction makes of the motor lines: it leaves them and keeps their guards, or it writes the
register of a drive that has a guard then, or it turns off the group of a drive whose guard goes. -/
inductive MotorMove (s s' : State) : Prop
  | quiet (lines : s'.dorsh = s.dorsh) (held : motorGuards s.reg.spc ⊆ motorGuards s'.reg.spc)
  | started (d : DriveId) (others : ∀ g, group s.cfg d ≠ g → s'.dorsh g = s.dorsh g)
      (held : motorGuards s.reg.spc ⊆ motorGuards s'.reg.spc) (guarded : d ∈ motorGuards s'.reg.spc)
  | stopped (d : DriveId) (others : ∀ g, group s.cfg d ≠ g → s'.dorsh g = s.dorsh g)
      (off : ∀ k, s'.motorLine (group s.cfg d) k = false)
      (held : motorGuards s.reg.spc ⊆ d :: motorGuards s'.reg.spc)

/-- A line that is on after the instruction was on before it, or its group has a guard now. -/
theorem MotorMove.keeps_guard (move : MotorMove s s') (cfg : s'.cfg = s.cfg) (layout : motorLayout s.cfg)
    (guard : MotorGuard s) : MotorGuard s' := by
  rw [motorGuard_iff layout] at guard
  rw [motorGuard_iff (cfg ▸ layout), cfg]
  intro g k hon
  have before (hline : s'.dorsh g = s.dorsh g) : ∃ d ∈ motorGuards s.reg.spc, group s.cfg d = g :=
    guard g k (by simpa only [State.motorLine, hline, cfg] using hon)
  cases move with
  | quiet lines held =>
    obtain ⟨d, hd, hg⟩ := before (congrFun lines g)
    exact ⟨d, held hd, hg⟩
  | started d others held guarded =>
    by_cases hg : group s.cfg d = g
    · exact ⟨d, guarded, hg⟩
    · obtain ⟨e, he, hge⟩ := before (others g hg)
      exact ⟨e, held he, hge⟩
  | stopped d others off held =>
    by_cases hg : group s.cfg d = g
    · subst hg
      rw [off] at hon
      cases hon
    · obtain ⟨e, he, hge⟩ := before (others g hg)
      obtain rfl | he := List.mem_cons.mp (held he)
      · exact absurd hge hg
      · exact ⟨e, he, hge⟩

theorem State.dorsh_congr (primary : s'.reg.dorshPrimary = s.reg.dorshPrimary := by simp)
    (secondary : s'.reg.dorshSecondary = s.reg.dorshSecondary := by simp) : s'.dorsh = s.dorsh := by
  funext g
  cases g
  · exact primary
  · exact secondary

namespace MotorMove

/-- An instruction that writes no output-control register and keeps the guards. -/
theorem of_quiet (hs : s.reg.spc = l) (hs' : s'.reg.spc = l')
    (held : motorGuards l ⊆ motorGuards l' := by simp [mayRun])
    (lines : s'.dorsh = s.dorsh := by exact State.dorsh_congr) : MotorMove s s' :=
  .quiet lines (by rwa [hs, hs'])

theorem of_return {o : SeqOutcome} (hs : s.reg.spc = f :: below) (hr : returnTo below o u = .next s')
    (may : mayRun f = none := by rfl) (lines : u.dorsh = s.dorsh := by exact State.dorsh_congr) :
    MotorMove s s' := by
  obtain ⟨-, rfl⟩ := returnTo_inv hr
  exact .of_quiet hs rfl (by simp [may]) lines

/-- A frame of the bottom stands alone, so it leaves no guard behind. -/
theorem of_bottom (good : Good s) (hs : s.reg.spc = f :: below) (hf : bottomOk f = true)
    (lines : s'.dorsh = s.dorsh) : MotorMove s s' := by
  have hstack := good.stack
  rw [hs] at hstack
  rw [stackOk_bottom hf hstack] at hs
  exact .of_quiet hs rfl (by simp [mayRun_of_bottomOk hf]) lines

/-- A write to the output-control register of `d` by which its group has no motor line on. -/
theorem of_stop (layout : motorLayout s.cfg) (d : DriveId) {v : Byte} (hs : s.reg.spc = l)
    (off : ∀ k, v &&& motorMask s.cfg k = 0)
    (held : motorGuards l ⊆ d :: motorGuards l' := by simp [mayRun]) :
    MotorMove s ((portWrite (dorPort s.cfg d) v s).withSpc l') := by
  have written := dorsh_write_dorPort layout d v
  refine .stopped d (fun g hg => (written g).trans (if_neg hg)) (fun k => ?_) (by rwa [hs])
  have hgroup : ((portWrite (dorPort s.cfg d) v s).withSpc l').dorsh (group s.cfg d) = v :=
    (written _).trans (if_pos rfl)
  simp [State.motorLine, hgroup, off k]

end MotorMove

-- The frames of the bottom write no output-control register (46 R170 to R177, 47 R190)

theorem detectDrive_dorsh (d : DriveId) (x : BitVec 4) (s : State) : (detectDrive d x s).dorsh = s.dorsh := by
  rcases detectDrive_cases d x s with ⟨-, h⟩ | ⟨-, h⟩ <;> rw [h]
  exact State.dorsh_congr

theorem execSeqInit_dorsh (h : execSeqInit s = .next s') : s'.dorsh = s.dorsh := by
  unfold execSeqInit at h
  split at h
  case h_1 => cases h; exact State.dorsh_congr
  case h_2 => cases h; exact detectDrive_dorsh ..
  case h_3 => cases h; exact detectDrive_dorsh ..
  case h_4 => cases h; exact State.dorsh_congr
  case h_5 => cases h

theorem execSeqOpen_dorsh (h : execSeqOpen s = .next s') : s'.dorsh = s.dorsh := by
  unfold execSeqOpen at h
  split at h
  case h_1 =>
    split at h
    · cases h; exact State.dorsh_congr
    · split at h <;> cases h <;> exact State.dorsh_congr
  case h_2 => cases h; exact State.dorsh_congr
  case h_3 => cases h

theorem execSeqClose_dorsh (h : execSeqClose s = .next s') : s'.dorsh = s.dorsh := by
  unfold execSeqClose at h
  split at h
  case h_1 => split at h <;> cases h <;> exact State.dorsh_congr
  case h_2 => cases h; exact State.dorsh_congr
  case h_3 => cases h

theorem execSeqRead_dorsh (h : execSeqRead s = .next s') : s'.dorsh = s.dorsh := by
  unfold execSeqRead at h
  split at h
  case h_1 =>
    dsimp only at h
    split at h
    · cases h; exact State.dorsh_congr
    · split at h
      · cases h; exact State.dorsh_congr
      · split at h <;> cases h <;> exact State.dorsh_congr
  case h_2 => split at h <;> cases h <;> exact State.dorsh_congr
  case h_3 => cases h

theorem execSeqWrite_dorsh (h : execSeqWrite s = .next s') : s'.dorsh = s.dorsh := by
  unfold execSeqWrite at h
  split at h <;> cases h
  exact State.dorsh_congr

theorem execSeqSeek_dorsh (h : execSeqSeek s = .next s') : s'.dorsh = s.dorsh := by
  unfold execSeqSeek at h
  split at h
  · split at h <;> cases h <;> exact State.dorsh_congr
  · cases h

theorem execSeqIllegal_dorsh (h : execSeqIllegal s = .next s') : s'.dorsh = s.dorsh := by
  unfold execSeqIllegal at h
  split at h <;> cases h
  exact State.dorsh_congr

theorem accept_dorsh (ctl : Byte) (a : BitVec 64) (b : BitVec 32) (f : Frame) (s : State) :
    (accept ctl a b f s).dorsh = s.dorsh := by
  rcases accept_cases ctl a b f s with ⟨-, h⟩ | ⟨-, h⟩ <;> rw [h] <;> exact State.dorsh_congr

-- The block I/O engine (45 R150, R157)

theorem execSeqReadblock_motors (h : execSeqReadblock s = .next s') : MotorMove s s' := by
  unfold execSeqReadblock at h
  split at h
  case h_1 d b buf below hs =>
    rcases xlate_cases b.toNat (s.geomOf d).heads (s.geomOf d).sectors s with ⟨-, hx⟩ | ⟨-, -, hx⟩ <;> rw [hx] at h
    · cases h
    · cases h; exact .of_quiet hs rfl
  case h_2 d b buf below hs => cases h; exact .of_quiet hs rfl
  case h_3 d b buf below hs => split at h <;> cases h <;> exact .of_quiet hs rfl
  case h_4 d b buf below hs => cases h; exact .of_quiet hs rfl
  case h_5 d b buf below hs => split at h <;> cases h <;> exact .of_quiet hs rfl
  case h_6 d b buf below hs => split at h <;> cases h <;> exact .of_quiet hs rfl
  case h_7 d b buf below hs =>
    split at h <;> cases h
    · exact .of_quiet hs rfl
    · rcases stepEight_cases d b buf below s with ⟨-, he⟩ | ⟨-, he⟩ <;> rw [he] <;> exact .of_quiet hs rfl
  case h_8 d b buf below hs => cases h; exact .of_quiet hs rfl
  case h_9 d b buf below hs => exact .of_return hs h
  case h_10 d b buf below hs =>
    split at h
    · cases h; exact .of_quiet hs rfl
    · exact .of_return hs h
  case h_11 c d b buf below hs => exact .of_return hs h
  case h_12 c d b buf below hs => exact .of_return hs h
  case h_13 => cases h

theorem execSeqCopyblk_motors (h : execSeqCopyblk s = .next s') : MotorMove s s' := by
  unfold execSeqCopyblk at h
  split at h
  case h_1 buf below hs => cases h; exact .of_quiet hs rfl
  case h_2 buf below hs => cases h; exact .of_quiet hs rfl
  case h_3 buf below hs =>
    dsimp only at h
    split at h
    · cases h; exact .of_quiet hs rfl
    · exact .of_return hs h
  case h_4 => cases h

-- The drive state machine (44 R130 to R134)

/-- MOTORON leaves a motor on under the frame of its caller. -/
theorem execSeqMotoron_motors (good : Good s) (layout : motorLayout s.cfg) (h : execSeqMotoron s = .next s') :
    MotorMove s s' := by
  unfold execSeqMotoron at h
  split at h
  case h_1 d below hs =>
    cases h
    have hguard : d ∈ motorGuards below := by
      have hstack := good.stack
      rw [hs] at hstack
      cases below with
      | nil => cases hstack
      | cons c rest =>
        simp only [stackOk, Bool.and_eq_true] at hstack
        simp [mayRun_of_calls_motoron hstack.1]
    exact .started d (fun g hg => (dorsh_write_dorPort layout d _ g).trans (if_neg hg))
      (by simp [hs, mayRun]) (by simpa [mayRun] using hguard)
  case h_2 d below hs => exact .of_return hs h
  case h_3 => cases h

theorem execSeqMotoroff_motors (layout : motorLayout s.cfg) (h : execSeqMotoroff s = .next s') :
    MotorMove s s' := by
  unfold execSeqMotoroff at h
  split at h
  case h_1 d below hs => cases h; exact .of_stop layout d hs (dorStopByte_motor layout d)
  case h_2 d below hs => exact .of_return hs h
  case h_3 => cases h

theorem execSeqRecalibrate_motors (h : execSeqRecalibrate s = .next s') : MotorMove s s' := by
  unfold execSeqRecalibrate at h
  split at h
  case h_1 d below hs => cases h; exact .of_quiet hs rfl
  case h_2 d below hs => cases h; exact .of_quiet hs rfl
  case h_3 d below hs => split at h <;> cases h <;> exact .of_quiet hs rfl
  case h_4 d below hs => split at h <;> cases h <;> exact .of_quiet hs rfl
  case h_5 r d below hs => exact .of_return hs h
  case h_6 => cases h

theorem execSeqSeekcyl_motors (h : execSeqSeekcyl s = .next s') : MotorMove s s' := by
  unfold execSeqSeekcyl at h
  split at h
  case h_1 d x below hs =>
    split at h
    · exact .of_return hs h
    · cases h; exact .of_quiet hs rfl
  case h_2 d x below hs =>
    split at h
    · exact .of_return hs h
    · cases h; exact .of_quiet hs rfl
  case h_3 d x below hs =>
    split at h
    · exact .of_return hs h
    · split at h <;> exact .of_return hs h
  case h_4 => cases h

theorem execSeqResetseq_motors (layout : motorLayout s.cfg) (h : execSeqResetseq s = .next s') :
    MotorMove s s' := by
  unfold execSeqResetseq at h
  split at h
  case h_1 d below hs => cases h; exact .of_stop layout d hs (fun _ => dorDisableByte_motor _)
  case h_2 d below hs => cases h; exact .of_stop layout d hs (dorEnableByte_motor layout)
  case h_3 d below hs => cases h; exact .of_quiet hs rfl
  case h_4 d below hs => cases h; exact .of_quiet hs rfl (lines := dorsh_write_ccrPort layout d _)
  case h_5 r d below hs => cases h; exact .of_quiet hs rfl
  case h_6 r d below hs => split at h <;> exact .of_return hs h
  case h_7 => cases h

-- WAIT and the byte protocol (42 R112, 41 R100 to R103)

theorem waitPoll_motors {p : WaitPlace} {d : DriveId} (hs : s.reg.spc = .wait p d :: below)
    (lines : u.dorsh = s.dorsh) : MotorMove s (waitPoll d below u) := by
  rcases waitPoll_cases d below u with ⟨-, h⟩ | ⟨-, h⟩ <;> rw [h] <;>
    exact .of_quiet hs rfl (lines := lines)

theorem execSeqWait_motors (h : execSeqWait s = .next s') : MotorMove s s' := by
  unfold execSeqWait at h
  split at h
  case h_1 d below hs => cases h; exact waitPoll_motors hs State.dorsh_congr
  case h_2 d below hs =>
    rcases waitMissed_cases d below s with ⟨-, hm⟩ | ⟨_, -, -, hm⟩ | ⟨-, hm⟩ <;> rw [hm] at h
    · cases h; exact waitPoll_motors hs rfl
    · cases h; exact waitPoll_motors hs State.dorsh_congr
    · exact .of_return hs h
  case h_3 d below hs => cases h; exact .of_quiet hs rfl
  case h_4 d below hs =>
    split at h
    · exact .of_return hs h
    · cases h; exact .of_quiet hs rfl
  case h_5 d below hs => split at h <;> exact .of_return hs h
  case h_6 => cases h

theorem sendLoop_motors {p : FramePlace} {d : DriveId} {n : SendLen} (hs : s.reg.spc = .sendframe p d n :: below)
    (lines : u.dorsh = s.dorsh) (h : sendLoop d n below u = .next s') : MotorMove s s' := by
  rcases sendLoop_cases d n below u with ⟨-, hl⟩ | ⟨-, hl⟩ <;> rw [hl] at h
  · cases h; exact .of_quiet hs rfl (lines := lines)
  · exact .of_return hs h (lines := lines)

theorem execSeqSendframe_motors (h : execSeqSendframe s = .next s') : MotorMove s s' := by
  unfold execSeqSendframe at h
  split at h
  case h_1 d n below hs => exact sendLoop_motors hs State.dorsh_congr h
  case h_2 d n below hs =>
    split at h
    · exact .of_return hs h
    · exact sendLoop_motors hs State.dorsh_congr h
  case h_3 => cases h

theorem getLoop_motors {p : FramePlace} {d : DriveId} {n : GetLen} (hs : s.reg.spc = .getframe p d n :: below)
    (lines : u.dorsh = s.dorsh) (h : getLoop d n below u = .next s') : MotorMove s s' := by
  rcases getLoop_cases d n below u with ⟨-, hl⟩ | ⟨-, hl⟩ <;> rw [hl] at h
  · cases h; exact .of_quiet hs rfl (lines := lines)
  · exact .of_return hs h (lines := lines)

theorem execSeqGetframe_motors (h : execSeqGetframe s = .next s') : MotorMove s s' := by
  unfold execSeqGetframe at h
  split at h
  case h_1 d n below hs => exact getLoop_motors hs State.dorsh_congr h
  case h_2 d n below hs =>
    split at h
    · exact .of_return hs h
    · exact getLoop_motors hs State.dorsh_congr h
  case h_3 => cases h

theorem execSeqSendbyte_motors (layout : motorLayout s.cfg) (h : execSeqSendbyte s = .next s') :
    MotorMove s s' := by
  unfold execSeqSendbyte at h
  split at h
  case h_1 d v below hs => cases h; exact .of_quiet hs rfl
  case h_2 d v below hs =>
    cases h
    rcases sendTest_cases d v below s with ⟨-, he⟩ | ⟨-, he⟩ <;> rw [he]
    · exact .of_quiet hs rfl (lines := dorsh_write_dataPort layout d v)
    · exact .of_quiet hs rfl
  case h_3 d v below hs =>
    dsimp only at h
    split at h
    · exact .of_return hs h
    · cases h; exact .of_quiet hs rfl
  case h_4 d v below hs => exact .of_return hs h
  case h_5 => cases h

theorem execSeqGetbyte_motors (h : execSeqGetbyte s = .next s') : MotorMove s s' := by
  unfold execSeqGetbyte at h
  split at h
  case h_1 d below hs => cases h; exact .of_quiet hs rfl
  case h_2 d below hs =>
    cases h
    rcases getTest_cases d below s with ⟨-, he⟩ | ⟨-, he⟩ <;> rw [he] <;> exact .of_quiet hs rfl
  case h_3 d below hs =>
    dsimp only at h
    split at h
    · exact .of_return hs h
    · cases h; exact .of_quiet hs rfl
  case h_4 d below hs => exact .of_return hs h
  case h_5 => cases h

/-- Whatever busy frame's sequence runs in a good state. -/
theorem exec_frame_motors (good : Good s) (layout : motorLayout s.cfg) (hs : s.reg.spc = f :: below)
    (hf : f ≠ .idle) (h : exec f.instr s = .next s') : MotorMove s s' := by
  cases f with
  | idle => exact absurd rfl hf
  | init => exact .of_bottom good hs rfl (execSeqInit_dorsh h)
  | opOpen => exact .of_bottom good hs rfl (execSeqOpen_dorsh h)
  | opClose => exact .of_bottom good hs rfl (execSeqClose_dorsh h)
  | opRead => exact .of_bottom good hs rfl (execSeqRead_dorsh h)
  | opWrite => exact .of_bottom good hs rfl (execSeqWrite_dorsh h)
  | opSeek => exact .of_bottom good hs rfl (execSeqSeek_dorsh h)
  | opIllegal => exact .of_bottom good hs rfl (execSeqIllegal_dorsh h)
  | readblock => exact execSeqReadblock_motors h
  | copyblk => exact execSeqCopyblk_motors h
  | motoron => exact execSeqMotoron_motors good layout h
  | motoroff => exact execSeqMotoroff_motors layout h
  | recalibrate => exact execSeqRecalibrate_motors h
  | seekcyl => exact execSeqSeekcyl_motors h
  | resetseq => exact execSeqResetseq_motors layout h
  | wait => exact execSeqWait_motors h
  | sendframe => exact execSeqSendframe_motors h
  | getframe => exact execSeqGetframe_motors h
  | sendbyte => exact execSeqSendbyte_motors layout h
  | getbyte => exact execSeqGetbyte_motors h

-- The step, whoever moves (00 R9)

/-- What every step keeps: the invariant, the default registers, and each running motor guarded. -/
structure MotorSafe (s : State) : Prop where
  good : Good s
  layout : motorLayout s.cfg
  guard : MotorGuard s

/-- What comes up runs in the same block: a fetch takes at most the command off the port (46 R170). -/
theorem fetch_block {i : Instr} (h : fetch s = some (i, u)) : u.cfg = s.cfg ∧ u.reg = s.reg := by
  unfold fetch at h
  split at h
  · cases h
  · split at h <;> cases h <;> exact ⟨rfl, rfl⟩
  · cases h; exact ⟨rfl, rfl⟩

theorem exec_cfg {i : Instr} (h : exec i s = .next s') : s'.cfg = s.cfg :=
  (instructionMakesAtMostOneEvent i s s' h).1

theorem fetch_motors (good : Good s) (layout : motorLayout s.cfg) {i : Instr} (hfetch : fetch s = some (i, u))
    (hx : exec i u = .next s') : MotorMove s s' := by
  cases hs : s.reg.spc with
  | nil => simp [fetch, hs] at hfetch
  | cons f below =>
    by_cases hf : f = .idle
    · subst hf
      refine .of_bottom good hs rfl ?_
      cases hcmd : s.env.cmd with
      | none =>
        rw [fetch_waiting hs hcmd] at hfetch
        cases hfetch
        simp only [exec, execSeqIdle, hs, hcmd] at hx
        cases hx
        rfl
      | some c =>
        rw [fetch_command hs hcmd] at hfetch
        cases hfetch
        obtain ⟨ctl, a, b, f, -, hacc⟩ := exec_host (encode_decodeHost_space c.ctl c.a c.b)
          { s with env := { s.env with cmd := none } }
        rw [hacc] at hx
        cases hx
        exact accept_dorsh ..
    · rw [fetch_busy hs hf] at hfetch
      cases hfetch
      exact exec_frame_motors good layout hs hf hx

/-- An instruction that comes up keeps the motors safe. -/
theorem MotorSafe.of_fetch (safe : MotorSafe s) {i : Instr} (hfetch : fetch s = some (i, u))
    (hx : exec i u = .next s') : MotorSafe s' := by
  obtain ⟨good, layout, guard⟩ := safe
  have cfg : s'.cfg = s.cfg := (exec_cfg hx).trans (fetch_block hfetch).1
  refine ⟨?_, cfg ▸ layout, (fetch_motors good layout hfetch hx).keeps_guard cfg layout guard⟩
  obtain ⟨j, w, hfetch', t, hx', ht⟩ := fetch_keeps_good good
  cases hfetch.symm.trans hfetch'
  cases hx.symm.trans hx'
  exact ht

theorem sequencerStep_keeps_motorSafe {n : Nat} {t : State} (safe : MotorSafe s)
    (h : sequencerStep exec n s = .next t) : MotorSafe t := by
  induction n generalizing s with
  | zero => cases h; exact safe
  | succ n ih =>
    obtain ⟨i, u, u', hfetch, hx, hend⟩ := sequencerStep_next h
    have safe' : MotorSafe u' := safe.of_fetch hfetch hx
    obtain rfl | hrest := hend
    · exact safe'
    · exact ih safe' hrest

/-- The guard reads the configuration, the shadows and the stack. -/
theorem MotorGuard.of_same (guard : MotorGuard s) (cfg : s'.cfg = s.cfg) (dorsh : s'.dorsh = s.dorsh)
    (spc : s'.reg.spc = s.reg.spc) : MotorGuard s' := by
  simpa only [MotorGuard, State.motorLine, cfg, dorsh, spc] using guard

/-- After a hardware reset no motor line is on (70 R230). -/
theorem motorGuard_hardReset (s : State) : MotorGuard (hardReset s) := by
  intro g k hon
  cases g <;> simp [State.motorLine, State.dorsh, Regs.reset] at hon

/-- The other agents leave the shadows and the stack, but for the reset line, which clears them (00 R9). -/
theorem agentStep_keeps_motorGuard {m : Move} {t : State} (safe : MotorSafe s)
    (h : agentStep exec m s = .next t) : MotorGuard t := by
  cases m with
  | sequencer => exact (sequencerStep_keeps_motorSafe safe h).guard
  | irqFire => cases h; exact safe.guard.of_same rfl rfl rfl
  | dmaWrite j v =>
    simp only [agentStep] at h
    split at h <;> cases h
    · exact safe.guard
    · exact safe.guard.of_same rfl rfl rfl
  | sysWrite a v => cases h; exact safe.guard.of_same rfl rfl rfl
  | present c => cases h; exact safe.guard.of_same rfl rfl rfl
  | rst => cases h; exact motorGuard_hardReset s

theorem step_keeps_motorGuard {t : State} (safe : MotorSafe s) (h : step s = .next t) : MotorGuard t := by
  obtain ⟨good, layout, guard⟩ := safe
  cases hsched : s.env.sched with
  | nil =>
    rw [step_alone good.config ⟨good.issue, hsched⟩] at h
    exact (sequencerStep_keeps_motorSafe ⟨good, layout, guard⟩ h).guard
  | cons m rest =>
    rw [step_scheduled good.config good.issue hsched] at h
    have safe' : MotorSafe { s with env := { s.env with sched := rest } } :=
      ⟨good.of_same (memory := good.memory), layout, guard.of_same rfl rfl rfl⟩
    exact agentStep_keeps_motorGuard safe' h

/-- An idle block has no frame that could keep a motor on, and none of a sequence that moves a head. -/
theorem MotorGuard.idle_off (guard : MotorGuard s) (idle : s.reg.spc = [.idle]) (d : DriveId) :
    s.motorOn d = false ∧ s.driveState d = .off := by
  have off : s.motorOn d = false := by
    by_contra hon
    obtain ⟨f, hf, e, hmay, -⟩ := guard _ _ (Bool.eq_true_of_not_eq_false hon)
    rw [idle, List.mem_singleton] at hf
    subst hf
    cases hmay
  refine ⟨off, ?_⟩
  simp [State.driveState, idle, off, Frame.resets, Frame.recalibrates, Frame.seeks]

/-- Settles O43: every step keeps the guard, and in an idle block nothing guards a motor. -/
theorem idleBlockHasMotorsOff : Obligations.IdleBlockHasMotorsOff := by
  intro s t good layout guard h
  have guard' : MotorGuard t := step_keeps_motorGuard ⟨good, layout, guard⟩ h
  exact ⟨guard', guard'.idle_off⟩

end Sys2Proof.Machine
end

section
/-! PROOF. The block I/O engine (45 R150 to R157): READBLOCK and COPYBLK place by place, and the copy of the whole block. -/

namespace Sys2Proof.Machine

-- READBLOCK (45 R150)

section Readblock

variable {s : State} {d : DriveId} {b : BitVec 32} {buf : Addr} {below : List Frame} {c : Cause}

/-- READ's frame is all nine bytes of `FB` (30 R70). -/
theorem callSend_read (d : DriveId) (eot : Byte) (l : List Frame) (s : State) :
    callSend d .nine (readFrame s.cfg (dsel s.cfg d) s.reg.xc s.reg.xh s.reg.xs eot) l s =
      s.turned { s.reg with
        fb := #v[s.cfg.opcRead, ((s.reg.xh <<< 2) ||| (dsel s.cfg d).zeroExtend 32).extractLsb' 0 8,
          s.reg.xc.extractLsb' 0 8, s.reg.xh.extractLsb' 0 8, s.reg.xs.extractLsb' 0 8, 2, eot, 0x1B, 0xFF]
        spc := .sendframe .start d .nine :: l } := by
  rw [callSend, readFrame, loadFrame_nine]
  rfl

/-- A failed seek sends READBLOCK to MOTOROFF with the failure (45 R152). -/
theorem execSeqReadblock_seekFailed (hs : s.reg.spc = .readblock .seeking d b buf :: below)
    (hret : s.reg.ret = .fail c) : execSeqReadblock s =
      .next (s.withSpc (.motoroff .start d :: .readblock (.seekAborting c) d b buf :: below)) := by
  simp only [execSeqReadblock, hs, hret]

/-- The head in place, the DMA engine gets the parameters of the transfer. -/
theorem execSeqReadblock_seeked (hs : s.reg.spc = .readblock .seeking d b buf :: below)
    (hret : ∀ c, s.reg.ret ≠ .fail c) : execSeqReadblock s =
      .next ((dmaProgram s.cfg.dmaCh s.cfg.dmaBufAddr (BitVec.ofNat 32 blockSize) s).withSpc
        (.readblock .programmed d b buf :: below)) := by
  simp only [execSeqReadblock, hs]

/-- A failure of the frame, the WAIT or the drain sends READBLOCK to RESETSEQ with the failure (45 R153). -/
theorem execSeqReadblock_transferFailed
    (hs : s.reg.spc = .readblock .sending d b buf :: below ∨ s.reg.spc = .readblock .waiting d b buf :: below
      ∨ s.reg.spc = .readblock .draining d b buf :: below)
    (hret : s.reg.ret = .fail c) : execSeqReadblock s =
      .next (s.withSpc (.resetseq .start d :: .readblock (.resetting c) d b buf :: below)) := by
  rcases hs with hs | hs | hs <;> simp only [execSeqReadblock, hs, hret, transferFailed]

theorem execSeqReadblock_sent (hs : s.reg.spc = .readblock .sending d b buf :: below)
    (hret : ∀ c, s.reg.ret ≠ .fail c) : execSeqReadblock s =
      .next (s.withSpc (.wait .start d :: .readblock .waiting d b buf :: below)) := by
  simp only [execSeqReadblock, hs]

theorem execSeqReadblock_waited (hs : s.reg.spc = .readblock .waiting d b buf :: below)
    (hret : ∀ c, s.reg.ret ≠ .fail c) : execSeqReadblock s =
      .next (s.withSpc (.getframe .start d .seven :: .readblock .draining d b buf :: below)) := by
  simp only [execSeqReadblock, hs]

/-- The result drained, the completion code decides between the copy and a RECALIBRATE (45 R154, R155). -/
theorem execSeqReadblock_drained (hs : s.reg.spc = .readblock .draining d b buf :: below)
    (hret : ∀ c, s.reg.ret ≠ .fail c) : execSeqReadblock s = .next
      (if (s.drv d).st0 &&& s.cfg.st0IcMask = 0 then
        s.withSpc (.motoroff .start d :: .readblock .quieting d b buf :: below)
      else s.turned { s.reg with
        err := firstCause s.reg.err .commandFailure
        spc := .recalibrate .start d :: .readblock .rehoming d b buf :: below }) := by
  have hcheck : execSeqReadblock s = .next (stepEight d b buf below s) := by simp only [execSeqReadblock, hs]
  rw [hcheck]
  rcases stepEight_cases d b buf below s with ⟨hcode, hnext⟩ | ⟨hcode, hnext⟩
  · rw [hnext, if_pos (beq_iff_eq.mp hcode)]
  · rw [hnext, if_neg (beq_eq_false_iff_ne.mp hcode)]

/-- The head home again, the count of attempts decides (45 R151). -/
theorem execSeqReadblock_rehomed (hs : s.reg.spc = .readblock .rehoming d b buf :: below) :
    execSeqReadblock s = if s.reg.tries.toNat < maxTries then .next (startAttempt d b buf below s)
      else returnTo below (.fail .commandFailure) s := by
  rw [execSeqReadblock, hs]

end Readblock

/-- Settles O14, place by place; the seek's return splits on its outcome. -/
theorem readblockTranslatesSeeksAndSends : Obligations.ReadblockTranslatesSeeksAndSends := by
  intro s d b buf below c g
  refine ⟨fun hs hheads hsectors => ?start, fun hs => ?spinning,
    fun hs => execSeqReadblock_seekFailed hs, fun hs hcaller => ?seekAborting,
    fun hs hret => execSeqReadblock_seeked hs hret, fun hs => ?programmed⟩
  case start =>
    rw [exec, execSeqReadblock, hs]
    rcases xlate_cases b.toNat g.heads g.sectors s with ⟨hzero, -⟩ | ⟨-, -, hx⟩
    · exact absurd hzero (not_or.mpr ⟨hheads, hsectors⟩)
    · dsimp only
      rw [hx]
      rfl
  case spinning => rw [exec, execSeqReadblock, hs]; rfl
  case seekAborting => rw [exec, execSeqReadblock, hs]; exact returnTo_next hcaller (.fail c) s
  case programmed => rw [exec, execSeqReadblock, hs]; exact congrArg Host.Outcome.next (callSend_read d _ _ s)

/-- Settles O15, place by place; each call's return splits on its outcome, the drain's on the completion
code too, RECALIBRATE's on the count of attempts. -/
theorem readblockWaitsChecksAndRetries : Obligations.ReadblockWaitsChecksAndRetries := by
  intro s d b buf below c goes good resets
  refine ⟨execSeqReadblock_sent, fun hs => execSeqReadblock_transferFailed (.inl hs),
    execSeqReadblock_waited, fun hs => execSeqReadblock_transferFailed (.inr (.inl hs)),
    fun hs => execSeqReadblock_transferFailed (.inr (.inr hs)), fun hs hcaller => ?resetting,
    fun hs hret hok => ?succeeded, fun hs hret hbad => ?commandFailed, fun hs => ?quieting,
    fun hs hcaller => ?copying, fun hs hmore => ?again, fun hs hlast hcaller => ?givenUp⟩ <;> rw [exec]
  case resetting => rw [execSeqReadblock, hs]; exact returnTo_next hcaller (.fail c) s
  case succeeded => rw [execSeqReadblock_drained hs hret, if_pos hok]; rfl
  case commandFailed => rw [execSeqReadblock_drained hs hret, if_neg hbad]
  case quieting => rw [execSeqReadblock, hs]; rfl
  case copying => rw [execSeqReadblock, hs]; exact returnTo_next hcaller .ok s
  case again =>
    have hleft : s.reg.tries.toNat < maxTries := hmore
    rw [execSeqReadblock_rehomed hs, if_pos hleft]
    rfl
  case givenUp =>
    have hspent : ¬ s.reg.tries.toNat < maxTries := Nat.not_lt.mpr hlast.ge
    rw [execSeqReadblock_rehomed hs, if_neg hspent, returnTo_next hcaller]

-- COPYBLK (45 R157)

/-- `CI` has room for the size of a block, so counting a byte does not wrap (10 R16). -/
theorem toNat_ci_succ {ci : BitVec 10} (h : ci.toNat < 512) : (ci + 1).toNat = ci.toNat + 1 := by
  have hone : (1 : BitVec 10).toNat = 1 := rfl
  rw [BitVec.toNat_add, hone]
  omega

/-- A byte stored is counted, and the next one read while the block has one. -/
theorem execSeqCopyblk_stored {s : State} {buf : Addr} {below : List Frame}
    (hs : s.reg.spc = .copyblk .stored buf :: below) : execSeqCopyblk s =
      if (s.reg.ci + 1).toNat < blockSize then
        .next (copyRead buf below (s.turned { s.reg with ci := s.reg.ci + 1 }))
      else returnTo below .ok (s.turned { s.reg with ci := s.reg.ci + 1 }) := by
  rw [execSeqCopyblk, hs]
  rfl

/-- Settles O16, place by place; after a byte stored it splits on the count. -/
theorem copyblkReadsThenWrites : Obligations.CopyblkReadsThenWrites := by
  intro s buf below reads
  refine ⟨fun hs => ?start, fun hs => ?loaded, fun hs hmore => ?next, fun hs hlast hcaller => ?done⟩
  case start => rw [exec, execSeqCopyblk, hs]; rfl
  case loaded => dsimp only; rw [exec, execSeqCopyblk, hs]; rfl
  case next =>
    have hci : (s.reg.ci + 1).toNat < blockSize := by
      rw [toNat_ci_succ (by omega), blockSize]
      omega
    rw [exec, execSeqCopyblk_stored hs, if_pos hci]
    rfl
  case done =>
    have hci : s.reg.ci + 1 = 512 := BitVec.eq_of_toNat_eq (by rw [toNat_ci_succ (by omega), hlast]; rfl)
    rw [exec, execSeqCopyblk_stored hs, hci, if_neg (by decide), returnTo_next hcaller]
    rfl

-- The copy of the whole block

/-- The offset of a byte as `CI` holds it, and as an address adds it. -/
theorem zeroExtend_ofNat_ci {n : Nat} (hn : n < 512) : (BitVec.ofNat 10 n).zeroExtend 32 = BitVec.ofNat 32 n := by
  apply BitVec.eq_of_toNat_eq
  simp only [BitVec.zeroExtend_eq_setWidth, BitVec.toNat_setWidth, BitVec.toNat_ofNat]
  omega

/-- Different offsets within a block are different addresses, wherever the block lies. -/
theorem offset_ne {i j : Nat} (a : Addr) (hi : i < 512) (hj : j < 512) (h : i ≠ j) :
    a + BitVec.ofNat 32 i ≠ a + BitVec.ofNat 32 j := by
  intro heq
  have hnat := congrArg BitVec.toNat (BitVec.add_right_inj a |>.mp heq)
  simp only [BitVec.toNat_ofNat] at hnat
  omega

/-- The memory of `t` is that of `s` with the first `n` bytes of the DMA buffer copied to `buf`. -/
structure Copied (s : State) (buf : Addr) (n : Nat) (t : State) : Prop where
  canonical : memOk t.env.sys = true
  copied : ∀ i < n, t.sysByte (buf + BitVec.ofNat 32 i) = s.sysByte (s.cfg.dmaBufAddr + BitVec.ofNat 32 i)
  kept : ∀ a, (∀ i < n, a ≠ buf + BitVec.ofNat 32 i) → t.sysByte a = s.sysByte a

theorem Copied.none {s : State} (buf : Addr) (ok : memOk s.env.sys = true) : Copied s buf 0 s where
  canonical := ok
  copied _ hi := absurd hi (Nat.not_lt_zero _)
  kept _ _ := rfl

/-- One more byte copied: it is still the one `s` had, since no byte of the DMA buffer was written. -/
theorem Copied.next {s t u : State} {buf : Addr} {n : Nat} (h : Copied s buf n t) (hn : n < 512)
    (disjoint : ∀ i < 512, s.cfg.dmaBufAddr + BitVec.ofNat 32 n ≠ buf + BitVec.ofNat 32 i)
    (stored : u.env.sys = memSet t.env.sys (buf + BitVec.ofNat 32 n).toNat
      (t.sysByte (s.cfg.dmaBufAddr + BitVec.ofNat 32 n))) :
    Copied s buf (n + 1) u := by
  have written : u.sysByte (buf + BitVec.ofNat 32 n) = t.sysByte (s.cfg.dmaBufAddr + BitVec.ofNat 32 n) := by
    rw [State.sysByte, stored]
    exact memGet_memSet_same _ _ _ h.canonical
  have unwritten (a : Addr) (ha : a ≠ buf + BitVec.ofNat 32 n) : u.sysByte a = t.sysByte a := by
    rw [State.sysByte, stored]
    exact memGet_memSet_other _ _ _ _ (mt BitVec.eq_of_toNat_eq ha)
  refine ⟨?canonical, fun i hi => ?copied, fun a ha => ?kept⟩
  case canonical => rw [stored]; exact memOk_memSet _ _ _ h.canonical (BitVec.isLt _)
  case copied =>
    obtain hlt | rfl := Nat.lt_succ_iff_lt_or_eq.mp hi
    · rw [unwritten _ (offset_ne buf (hlt.trans hn) hn hlt.ne), h.copied i hlt]
    · rw [written, h.kept _ fun j hj => disjoint j (hj.trans hn)]
  case kept =>
    rw [unwritten a (ha n n.lt_succ_self), h.kept a fun i hi => ha i (hi.trans n.lt_succ_self)]

/-- From a read of byte `n` on, two events put it in its place. -/
theorem runsEvents_copyByte {s : State} {p : CopyPlace} {buf : Addr} {below : List Frame} {n : Nat}
    (hn : n < 512) (only : SequencerOnly s) (hs : s.reg.spc = .copyblk p buf :: below)
    (hread : exec .seqCopyblk s =
      .next (copyRead buf below (s.turned { s.reg with ci := BitVec.ofNat 10 n }))) :
    ∃ t, RunsEvents 2 s t ∧ t.reg.spc = .copyblk .stored buf :: below ∧ t.reg.ci = BitVec.ofNat 10 n
      ∧ t.env.sys = memSet s.env.sys (buf + BitVec.ofNat 32 n).toNat
          (s.sysByte (s.cfg.dmaBufAddr + BitVec.ofNat 32 n)) := by
  have hload : RunsEvents 1 s (copyRead buf below (s.turned { s.reg with ci := BitVec.ofNat 10 n })) :=
    .of_exec only hs hread (by simp) ⟨_, rfl⟩ rfl rfl rfl rfl
  obtain ⟨-, hstore, -⟩ := copyblkReadsThenWrites
    (copyRead buf below (s.turned { s.reg with ci := BitVec.ofNat 10 n })) buf below
  refine ⟨_, hload.trans (.of_exec hload.only rfl (hstore rfl)), rfl, rfl, ?_⟩
  rw [← zeroExtend_ofNat_ci hn]
  rfl

/-- After `2 * (n + 1)` events the bytes 0 to `n` are copied, and `CI` is at the last of them. -/
theorem runsEvents_copyBytes {s : State} {buf : Addr} {below : List Frame} (only : SequencerOnly s)
    (ok : memOk s.env.sys = true) (hs : s.reg.spc = .copyblk .start buf :: below)
    (disjoint : ∀ i j : Nat, i < 512 → j < 512 →
      buf + BitVec.ofNat 32 i ≠ s.cfg.dmaBufAddr + BitVec.ofNat 32 j)
    {n : Nat} (hn : n < 512) :
    ∃ t, RunsEvents (2 * (n + 1)) s t ∧ t.reg.spc = .copyblk .stored buf :: below
      ∧ t.reg.ci = BitVec.ofNat 10 n ∧ Copied s buf (n + 1) t := by
  have apart (m : Nat) (hm : m < 512) (i : Nat) (hi : i < 512) :
      s.cfg.dmaBufAddr + BitVec.ofNat 32 m ≠ buf + BitVec.ofNat 32 i := (disjoint i m hi hm).symm
  induction n with
  | zero =>
    obtain ⟨hstart, -⟩ := copyblkReadsThenWrites s buf below
    obtain ⟨t, hrun, hspc, hci, hsys⟩ := runsEvents_copyByte hn only hs (hstart hs)
    exact ⟨t, hrun, hspc, hci, (Copied.none buf ok).next hn (apart 0 hn) hsys⟩
  | succ n ih =>
    have hlt : n < 512 := Nat.lt_of_succ_lt hn
    obtain ⟨t, hrun, hspc, hci, hcopied⟩ := ih hlt
    have hnat : t.reg.ci.toNat = n := by rw [hci, BitVec.toNat_ofNat]; omega
    have hcount : t.reg.ci + 1 = BitVec.ofNat 10 (n + 1) := by rw [hci, BitVec.ofNat_add]; rfl
    obtain ⟨-, -, hnext, -⟩ := copyblkReadsThenWrites t buf below
    have hread := hnext hspc (by omega)
    rw [hcount] at hread
    obtain ⟨u, hrun', hspc', hci', hsys⟩ := runsEvents_copyByte hn hrun.only hspc hread
    rw [hrun.cfg] at hsys
    exact ⟨u, hrun.trans hrun', hspc', hci', hcopied.next hn (apart _ hn) hsys⟩

/-- Settles O59: 512 bytes of two events each, the last of them byte 511. -/
theorem copyblkCopiesTheBlock : Obligations.CopyblkCopiesTheBlock := by
  intro s buf below hconfig halone ok hs disjoint
  obtain ⟨t, hrun, hspc, hci, hcopied⟩ :=
    runsEvents_copyBytes ⟨hconfig, halone⟩ ok hs disjoint (show 511 < 512 by decide)
  exact ⟨t, hrun.run, hspc, hci, hrun.events, hcopied.copied, hcopied.kept⟩

end Sys2Proof.Machine
end

section
/-! PROOF. The device front-end (46 R170 to R179): the accept, the host operations place by place, and the
commands that end in two or three steps. -/

namespace Sys2Proof.Machine

-- The accept, idle or busy (46 R170)

section Accept

variable {s : State} (ctl : Byte) (a : BitVec 64) (b : BitVec 32) (f : Frame)

theorem accept_idle (hs : s.reg.spc = [.idle]) :
    accept ctl a b f s = s.turned { s.reg with ctl := ctl, a := a, b := b, err := 0, spc := [f] } := by
  rcases accept_cases ctl a b f s with ⟨-, h⟩ | ⟨hbusy, -⟩
  · exact h
  · exact absurd hs hbusy

theorem accept_busy (hs : s.reg.spc ≠ [.idle]) :
    accept ctl a b f s = { s with env := { s.env with cmd := some ⟨ctl, a, b⟩ } } := by
  rcases accept_cases ctl a b f s with ⟨hidle, -⟩ | ⟨-, h⟩
  · exact absurd hidle hs
  · exact h

end Accept

/-- Settles O5: every host command row is an accept with the control byte of its fields. -/
theorem idleBlockAcceptsEveryCommand : Obligations.IdleBlockAcceptsEveryCommand := by
  intro s h o m l a b hs took
  have accepts (ctl : Byte) (f : Frame) : Host.Outcome.next (accept ctl a b f s) = took ctl f :=
    congrArg _ (accept_idle ctl a b f hs)
  exact ⟨accepts _ _, accepts _ _, accepts _ _, accepts _ _, accepts _ _, accepts _ _, accepts _ _,
    accepts _ _, accepts _ _, accepts _ _, accepts _ _⟩

-- Dispatch and decoder (46 R171, 30 R60, R64)

theorem dispatch_reserved {ctl : Byte} (h : ctl.extractLsb' 6 2 ≠ (0 : BitVec 2)) :
    dispatch ctl = .opIllegal := if_pos h

theorem dispatch_noOperation {ctl : Byte} (h : 5 ≤ (ctl.extractLsb' 0 3 : BitVec 3).toNat) :
    dispatch ctl = .opIllegal := by
  unfold dispatch
  split
  · rfl
  · split
    case h_6 => rfl
    all_goals omega

/-- Dispatch reads the reserved bits and `op`, no other bit. -/
theorem dispatch_of_fields {ctl : Byte} {op : BitVec 3} (hrsv : ctl.extractLsb' 6 2 = (0 : BitVec 2))
    (hop : ctl.extractLsb' 0 3 = op) : dispatch ctl = dispatch (hostControl op 0 0) := by
  simp only [dispatch, hrsv, hop, hostControl_rsv, hostControl_op]

/-- A decoded host command is the accept of its control byte with the frame dispatch names. -/
theorem exec_decodeHost (ctl : Byte) (a : BitVec 64) (b : BitVec 32) (s : State) :
    exec (decodeHost ctl a b) s = .next (accept ctl a b (dispatch ctl) s) := by
  obtain ⟨hopen, hclose, hread, hwrite, hseek, hop5, hop6, hop7, hrsv1, hrsv2, hrsv3⟩ :=
    everyControlByteIsDecided ctl a b
  rcases reservedBits_cases (ctl.extractLsb' 6 2) with r | r | r | r
  case inr.inl =>
    rw [dispatch_reserved (by simp [r]), hrsv1 r, exec, execIllegalRsv1, illegalRsvControl_of_fields r]
  case inr.inr.inl =>
    rw [dispatch_reserved (by simp [r]), hrsv2 r, exec, execIllegalRsv2, illegalRsvControl_of_fields r]
  case inr.inr.inr =>
    rw [dispatch_reserved (by simp [r]), hrsv3 r, exec, execIllegalRsv3, illegalRsvControl_of_fields r]
  rcases operationBits_cases (ctl.extractLsb' 0 3) with p | p | p | p | p | p | p | p <;>
    rw [dispatch_of_fields r p]
  · rw [hopen r p, exec, execHostOpen, hostControl_of_fields r p]; rfl
  · rw [hclose r p, exec, execHostClose, hostControl_of_fields r p]; rfl
  · rw [hread r p, exec, execHostRead, hostControl_of_fields r p]; rfl
  · rw [hwrite r p, exec, execHostWrite, hostControl_of_fields r p]; rfl
  · rw [hseek r p, exec, execHostSeek, hostControl_of_fields r p]; rfl
  · rw [hop5 r p, exec, execIllegalOp5, illegalOpControl_of_fields r p]; rfl
  · rw [hop6 r p, exec, execIllegalOp6, illegalOpControl_of_fields r p]; rfl
  · rw [hop7 r p, exec, execIllegalOp7, illegalOpControl_of_fields r p]; rfl

/-- The host commands are what the decoder makes of the bytes at the port. -/
theorem exists_decodeHost {i : Instr} (hi : (encode i).1 = .host) : ∃ ctl a b, i = decodeHost ctl a b := by
  have hwf : i.wellFormed = true := by
    cases i with
    | fdcRead | seqXlate | seqInrange => cases hi
    | _ => rfl
  have hdecode := decodeEncodeRoundTrip i hwf
  rw [hi] at hdecode
  obtain ⟨ctl, a, b, -, h⟩ := hostBytes_of_decode hdecode
  exact ⟨ctl, a, b, h⟩

/-- Settles O6: a host command is an accept, and a busy block's leaves the command at the port. -/
theorem busyBlockLeavesCommandAtPort : Obligations.BusyBlockLeavesCommandAtPort := by
  intro s i hs hi
  obtain ⟨ctl, a, b, rfl⟩ := exists_decodeHost hi
  exact ⟨⟨ctl, a, b⟩, rfl, by rw [exec_decodeHost, accept_busy _ _ _ _ hs]⟩

/-- Settles O7: both are the accept with the frame of the control byte. -/
theorem idleRunsTheDecodedCommand : Obligations.IdleRunsTheDecodedCommand := by
  intro s hs
  refine ⟨fun hcmd => ?waits, fun c hcmd => ?accepts⟩
  case waits => simp only [exec, execSeqIdle, hs, hcmd]
  case accepts =>
    rw [exec_decodeHost]
    simp only [exec, execSeqIdle, hs, hcmd]

/-- A host command's row fixes the operation and the handle of the control byte it was decoded from. -/
theorem fields_of_decodeHost {ctl : Byte} {a a' : BitVec 64} {b b' : BitVec 32} {i : Instr} {f : Frame}
    {op : BitVec 3} {h : BitVec 1} {o : BitVec 2} (hi : decodeHost ctl a b = i)
    (henc : encode i = (.host, hostBytes (hostControl op h o) a' b')) (hf : dispatch (hostControl op 0 0) = f) :
    dispatch ctl = f ∧ ctl.extractLsb' 3 1 = h := by
  have hbytes : hostBytes ctl a b = hostBytes (hostControl op h o) a' b' := by
    rw [← hi, encode_decodeHost] at henc
    exact congrArg Prod.snd henc
  have hctl : ctl = hostControl op h o := List.head_eq_of_cons_eq hbytes
  rw [hctl, dispatch_of_fields (hostControl_rsv ..) (hostControl_op ..)]
  exact ⟨hf, hostControl_handle ..⟩

-- The end of a host operation (46 R178)

theorem respond_setDrv (ok : Bool) (v : BitVec 32) (d : DriveId) (x : Drive) (s : State) :
    respond ok v (s.setDrv d x) =
      s.did (.respond ok v s.reg.err) { s.reg.setDrv d x with spc := [.idle] } := by
  cases d <;> rfl

theorem withSpc_setDrv (d : DriveId) (x : Drive) (l : List Frame) (s : State) :
    (s.setDrv d x).withSpc l = s.turned { s.reg.setDrv d x with spc := l } := by
  cases d <;> rfl

/-- Where the stack is set anew, it does not matter what it was when the drive was written. -/
theorem Regs.setDrv_under_spc (r : Regs) (d : DriveId) (x : Drive) (l l' : List Frame) :
    ({ ({ r with spc := l } : Regs).setDrv d x with spc := l' } : Regs) = { r.setDrv d x with spc := l' } := by
  cases d <;> rfl

theorem State.drv_did_setDrv (s : State) (e : Event) (r : Regs) (d : DriveId) (x : Drive) (l : List Frame) :
    (s.did e { r.setDrv d x with spc := l }).drv d = x := by
  cases d <;> rfl

-- The check of a handle (46 R171)

theorem State.valid_iff {s : State} {d : DriveId} :
    s.valid d = true ↔ (s.drv d).present = true ∧ (s.drv d).lock = true := by
  rw [State.valid, Bool.and_eq_true]

theorem State.not_valid_iff {s : State} {d : DriveId} :
    s.valid d = false ↔ ¬ ((s.drv d).present = true ∧ (s.drv d).lock = true) := by
  rw [← State.valid_iff, Bool.not_eq_true]

-- OPEN (46 R172)

/-- The first present drive of the name is the match. -/
theorem openMatch_eq_some {s : State} {name : DevName} {d : DriveId}
    (h : d = .d0 ∧ (s.reg.drv0.present = true ∧ s.cfg.name0 = name)
      ∨ d = .d1 ∧ ¬ (s.reg.drv0.present = true ∧ s.cfg.name0 = name)
        ∧ (s.reg.drv1.present = true ∧ s.cfg.name1 = name)) : s.openMatch name = some d := by
  obtain ⟨rfl, h0⟩ | ⟨rfl, h0, h1⟩ := h
  · rw [State.openMatch, if_pos h0]
  · rw [State.openMatch, if_neg h0, if_pos h1]

theorem openMatch_eq_none {s : State} {name : DevName}
    (h0 : ¬ (s.reg.drv0.present = true ∧ s.cfg.name0 = name))
    (h1 : ¬ (s.reg.drv1.present = true ∧ s.cfg.name1 = name)) : s.openMatch name = none := by
  rw [State.openMatch, if_neg h0, if_neg h1]

/-- Settles O8, place by place; the start splits on the name's match and on its lock. -/
theorem openMatchesLocksAndResets : Obligations.OpenMatchesLocksAndResets := by
  intro s below m0 m1 fails
  refine ⟨fun hs h0 h1 => ?noDevice, fun d hs hmatch hlock => ?busy, fun d hs hmatch hlock => ?locks,
    fun d hs => ?responds⟩ <;> rw [exec, execSeqOpen, hs]
  case noDevice =>
    dsimp only
    rw [openMatch_eq_none h0 h1]
    rfl
  case busy =>
    dsimp only
    rw [openMatch_eq_some hmatch]
    exact if_pos hlock
  case locks =>
    dsimp only
    rw [openMatch_eq_some hmatch]
    dsimp only
    rw [if_neg (Bool.eq_false_iff.mp hlock), withSpc_setDrv]
  case responds => rfl

-- CLOSE (46 R173)

/-- Settles O9, place by place; the start splits on the check of the handle. -/
theorem closeStopsZeroesAndUnlocks : Obligations.CloseStopsZeroesAndUnlocks := by
  intro s below h
  refine ⟨fun hs hbad => ?badHandle, fun hs hpresent hlock => ?calls, fun hs => ?responds⟩ <;>
    rw [exec, execSeqClose, hs]
  case badHandle => exact if_neg (mt State.valid_iff.mp hbad)
  case calls => exact if_pos (State.valid_iff.mpr ⟨hpresent, hlock⟩)
  case responds => exact congrArg _ (respond_setDrv ..)

-- READ (46 R174)

/-- A failed READBLOCK is READ's failure, with the cause that is recorded. -/
theorem execSeqRead_failed {s : State} {below : List Frame} {c : Cause}
    (hs : s.reg.spc = .opRead .reading :: below) (hret : s.reg.ret = .fail c) :
    execSeqRead s = .next (respond false failSentinel s) := by
  simp only [execSeqRead, hs, hret]

/-- A block read is the response of its size, with the cursor at the next one. -/
theorem execSeqRead_succeeded {s : State} {below : List Frame}
    (hs : s.reg.spc = .opRead .reading :: below) (hret : ∀ c, s.reg.ret ≠ .fail c) :
    execSeqRead s = .next (respond true (BitVec.ofNat 32 blockSize)
      (s.setDrv s.handle { s.drv s.handle with cursor := (s.drv s.handle).cursor + 1 })) := by
  simp only [execSeqRead, hs]

/-- Settles O10: the checks at the start in their order, then the two outcomes of READBLOCK. -/
theorem readChecksThenReadsOneBlock : Obligations.ReadChecksThenReadsOneBlock := by
  intro s below h g ready inside fails
  have valid (hready : ready) : ¬ s.valid h = false := fun hbad => State.not_valid_iff.mp hbad hready
  have sized (hsize : 512 ≤ s.reg.b.toNat) : ¬ s.reg.b.toNat < blockSize := Nat.not_lt.mpr hsize
  refine ⟨fun hs hbad => ?badHandle, fun hs hready hsize => ?shortBuffer,
    fun hs hready hsize hout => ?outOfRange, fun hs hready hsize hin => ?calls,
    fun c hs hret => execSeqRead_failed hs hret,
    fun hs hret => (execSeqRead_succeeded hs hret).trans (congrArg _ (respond_setDrv ..))⟩ <;>
    rw [exec, execSeqRead, hs]
  case badHandle => exact if_pos (State.not_valid_iff.mpr hbad)
  case shortBuffer => exact (if_neg (valid hready)).trans (if_pos hsize)
  case outOfRange =>
    exact (if_neg (valid hready)).trans ((if_neg (sized hsize)).trans (if_pos (decide_eq_false hout)))
  case calls =>
    have hrange : ¬ decide inside = false := fun hout => of_decide_eq_false hout hin
    exact (if_neg (valid hready)).trans ((if_neg (sized hsize)).trans (if_neg hrange))

-- WRITE and ILLEGAL (46 R175, R177)

/-- Settles O11: each is the failure of its one cause. -/
theorem writeAndIllegalAlwaysFail : Obligations.WriteAndIllegalAlwaysFail := by
  intro s below fails
  refine ⟨fun hs => ?write, fun hs => ?illegal⟩
  case write => rw [exec, execSeqWrite, hs]; rfl
  case illegal => rw [exec, execSeqIllegal, hs]; rfl

-- SEEK (46 R176)

/-- Settles O12, by the check of the handle. -/
theorem seekSetsTheCursor : Obligations.SeekSetsTheCursor := by
  intro s below hs h cur
  rw [exec, execSeqSeek, hs]
  refine ⟨fun hpresent hlock => ?moves, fun hbad => if_neg (mt State.valid_iff.mp hbad)⟩
  refine (if_pos (State.valid_iff.mpr ⟨hpresent, hlock⟩)).trans ?_
  rw [ofNat_div_blockSize]
  exact congrArg _ (respond_setDrv ..)

-- Whole commands (46 R179)

/-- The latch loaded with a command off the port and `ERR` cleared, the stack as it was (46 R170). -/
def State.latched (s : State) (c : HostCmd) : State := { s with
  reg := { s.reg with ctl := c.ctl, a := c.a, b := c.b, err := 0 }
  env := { s.env with cmd := none } }

section Commands

variable {s t u : State} {c : HostCmd} {f g : Frame} {below rest : List Frame} {e : Event} {r : Regs}

/-- The accept is a whole step: the latch loaded, and the frame of the operation on the stack. -/
theorem step_accept (only : SequencerOnly s) (hs : s.reg.spc = [.idle]) (hcmd : s.env.cmd = some c)
    (hf : dispatch c.ctl = f) : step s = .next ((s.latched c).withSpc [f]) := by
  rw [step_alone only.config only.alone, sequencerStep_idle (fetch_command hs hcmd) (by simp [hs]),
    exec_decodeHost, hf]
  exact congrArg _ (accept_idle _ _ _ _ hs)

/-- A command whose operation responds at once ends with that response, two steps after it stood at the
port (46 R178). -/
theorem runs_two_of_response (only : SequencerOnly s) (hs : s.reg.spc = [.idle]) (hcmd : s.env.cmd = some c)
    (hf : dispatch c.ctl = f) (hbusy : f ≠ .idle)
    (hx : exec f.instr ((s.latched c).withSpc [f]) =
      .next (((s.latched c).withSpc [f]).did e { r with spc := [.idle] }))
    (hidle : r.spc = [.idle]) (hcs : r.cs = s.reg.cs) : runs 2 s = .next ((s.latched c).did e r) := by
  have hr : ({ r with spc := [.idle] } : Regs) = r := by rw [← hidle]
  rw [hr] at hx
  have honly : SequencerOnly ((s.latched c).withSpc [f]) := ⟨only.config, only.alone⟩
  have hrun := RunsEvents.of_exec honly rfl hx hbusy (cs := hcs)
  exact (runs_succ 1 (step_accept only hs hcmd hf)).trans hrun.run

/-- A command whose operation fails at once ends with the sentinel and the cause, `ERR` being clear since
the accept (46 R170, R178). -/
theorem runs_two_of_failure (k : Cause) (only : SequencerOnly s) (hs : s.reg.spc = [.idle])
    (hcmd : s.env.cmd = some c) (hf : dispatch c.ctl = f) (hbusy : f ≠ .idle)
    (hx : exec f.instr ((s.latched c).withSpc [f]) = .next (raiseHost k ((s.latched c).withSpc [f]))) :
    runs 2 s =
      .next ((s.latched c).did (.respond false 0xFFFFFFFF k.code) { (s.latched c).reg with err := k.code }) :=
  runs_two_of_response only hs hcmd hf hbusy hx hs rfl

/-- An instruction that makes no event and leaves the block busy is one on the way of the step. -/
theorem step_silent_event (only : SequencerOnly s) (hs : s.reg.spc = f :: below) (hf : f ≠ .idle)
    (hx : exec f.instr s = .next u) (quiet : u.env.trace = s.env.trace)
    (hu : u.reg.spc = g :: rest) (hg : g ≠ .idle) (hxu : exec g.instr u = .next t)
    (event : t.env.trace = e :: u.env.trace) : step s = .next t := by
  have hgo : ¬ stepDone s u = true := by simp [stepDone, hs, hu, quiet, hf, hg]
  have hdone : stepDone u t = true := by simp [stepDone, event]
  rw [step_alone only.config only.alone, sequencerStep_of_next (fetch_busy hs hf) hx, if_neg hgo,
    sequencerStep_of_next (fetch_busy hu hg) hxu, if_pos hdone]

end Commands

/-- Settles O36: the accept, then the one response of the operation. -/
theorem shortCommandsEndInTwoSteps : Obligations.ShortCommandsEndInTwoSteps := by
  intro s h o a b ctl hconfig halone hs hcmd d cur s'
  have only : SequencerOnly s := ⟨hconfig, halone⟩
  refine ⟨fun hseek hpresent hlock => ?moves, fun hseek hbad => ?badHandle, fun hwrite => ?write,
    fun hillegal => ?illegal⟩
  case moves =>
    obtain ⟨hf, rfl⟩ := fields_of_decodeHost (f := .opSeek) hseek rfl rfl
    obtain ⟨hmoves, -⟩ := seekSetsTheCursor ((s.latched ⟨ctl, a, b⟩).withSpc [.opSeek]) [] rfl
    refine runs_two_of_response only hs hcmd hf (by simp) ((hmoves hpresent hlock).trans ?_)
      ((Regs.setDrv_spc ..).trans hs) (Regs.setDrv_cs ..)
    rw [State.withSpc_reg, Regs.setDrv_under_spc]
    rfl
  case badHandle =>
    obtain ⟨hf, rfl⟩ := fields_of_decodeHost (f := .opSeek) hseek rfl rfl
    obtain ⟨-, hfails⟩ := seekSetsTheCursor ((s.latched ⟨ctl, a, b⟩).withSpc [.opSeek]) [] rfl
    exact runs_two_of_failure .badHandle only hs hcmd hf (by simp) (hfails hbad)
  case write =>
    obtain ⟨hf, -⟩ := fields_of_decodeHost (f := .opWrite) hwrite rfl rfl
    obtain ⟨hfails, -⟩ := writeAndIllegalAlwaysFail ((s.latched ⟨ctl, a, b⟩).withSpc [.opWrite]) []
    exact runs_two_of_failure .unsupported only hs hcmd hf (by simp) (hfails rfl)
  case illegal =>
    have hf : dispatch ctl = .opIllegal := hillegal.elim dispatch_reserved dispatch_noOperation
    obtain ⟨-, hfails⟩ := writeAndIllegalAlwaysFail ((s.latched ⟨ctl, a, b⟩).withSpc [.opIllegal]) []
    exact runs_two_of_failure .illegalCommand only hs hcmd hf (by simp) (hfails rfl)

section Close

variable {s : State} {d : DriveId} {below : List Frame}

/-- CLOSE of an open drive calls MOTOROFF, whose write ends the step (46 R173, 44 R131). -/
theorem step_close_stops (only : SequencerOnly s) (hs : s.reg.spc = .opClose .start :: below)
    (hpresent : (s.drv s.handle).present = true) (hlock : (s.drv s.handle).lock = true) :
    step s = .next (s.did (.ioWrite (dorPort s.cfg s.handle) (dorStopByte s.cfg s.handle))
      { s.shadowed (dorPort s.cfg s.handle) (dorStopByte s.cfg s.handle) with
        spc := .motoroff .done s.handle :: .opClose .stopping :: below }) := by
  obtain ⟨-, hcalls, -⟩ := closeStopsZeroesAndUnlocks s below
  obtain ⟨-, hwrites, -⟩ := motorSequencesWriteTheirByte
    (s.turned { s.reg with spc := .motoroff .start s.handle :: .opClose .stopping :: below })
    s.handle (.opClose .stopping :: below)
  exact step_silent_event only hs (by simp) (hcalls hs hpresent hlock) rfl rfl (by simp) (hwrites rfl) rfl

/-- MOTOROFF returns to CLOSE, whose response ends the step with the drive shut (46 R173). -/
theorem step_close_responds (only : SequencerOnly s)
    (hs : s.reg.spc = .motoroff .done d :: .opClose .stopping :: below) :
    step s = .next (s.did (.respond true 0 s.reg.err)
      { ({ s.reg with ret := .ok } : Regs).setDrv s.handle { s.drv s.handle with cursor := 0, lock := false } with
        spc := [.idle] }) := by
  obtain ⟨-, -, -, hreturns, -⟩ := motorSequencesWriteTheirByte s d (.opClose .stopping :: below)
  obtain ⟨-, -, hresponds⟩ :=
    closeStopsZeroesAndUnlocks (s.turned { s.reg with spc := .opClose .stopping :: below, ret := .ok }) below
  rw [← Regs.setDrv_under_spc _ _ _ (.opClose .stopping :: below)]
  exact step_silent_event only hs (by simp) (hreturns hs (by simp)) rfl rfl (by simp) (hresponds rfl) rfl

end Close

/-- Settles O37: the accept, then the call of MOTOROFF with its write, then its return with the response. -/
theorem closeEndsInThreeSteps : Obligations.CloseEndsInThreeSteps := by
  intro s h o a b ctl hconfig halone hs hcmd hclose hpresent hlock
  have only : SequencerOnly s := ⟨hconfig, halone⟩
  obtain ⟨hf, rfl⟩ := fields_of_decodeHost (f := .opClose .start) hclose rfl rfl
  have haccept := step_accept only hs hcmd hf
  have hstops := step_close_stops (s := (s.latched ⟨ctl, a, b⟩).withSpc [.opClose .start])
    ⟨hconfig, halone⟩ rfl hpresent hlock
  have hrun := (runs_succ 2 haccept).trans ((runs_succ 1 hstops).trans
    (runs_succ 0 (step_close_responds ⟨hconfig, halone⟩ rfl)))
  exact ⟨_, hrun, State.drv_did_setDrv .., rfl, rfl, Regs.setDrv_err .., rfl⟩

end Sys2Proof.Machine
end

section
/-! PROOF. Drive registry and detection (47 R190 to R192, 70 R231): INIT place by place, and the start-up that
ends by itself. -/

namespace Sys2Proof.Machine

-- Detection of one drive (47 R190)

theorem detected_iff {x : BitVec 4} : detected x = true ↔ 1 ≤ x.toNat ∧ x.toNat ≤ 5 := by
  simp [detected]

theorem detectDrive_detected {x : BitVec 4} (hx : detected x = true) (d : DriveId) (s : State) :
    detectDrive d x s = s.did (.register d (devName s.cfg d))
      (s.reg.setDrv d { s.drv d with geom := x.truncate 3, lock := false, present := true }) := by
  rw [detectDrive, if_pos hx]
  cases d <;> rfl

theorem detectDrive_undetected {x : BitVec 4} (hx : x.toNat = 0 ∨ 5 < x.toNat) (d : DriveId) (s : State) :
    detectDrive d x s = s := by
  have hnot : ¬ detected x = true := by rw [detected_iff]; omega
  rw [detectDrive, if_neg hnot]

/-- The record of a drive after the detection of its type code `x`. -/
def Drive.detect (r : Drive) (x : BitVec 4) : Drive :=
  if detected x then { r with geom := x.truncate 3, lock := false, present := true } else r

/-- Detection changes no register but the record of its drive. -/
theorem detectDrive_reg (d : DriveId) (x : BitVec 4) (s : State) :
    (detectDrive d x s).reg = s.reg.setDrv d ((s.drv d).detect x) := by
  rcases detectDrive_cases d x s with ⟨hx, h⟩ | ⟨hx, h⟩ <;> rw [h, Drive.detect, hx]
  · exact State.setDrv_reg ..
  · cases d <;> rfl

/-- Detection neither reads nor changes the stack. -/
theorem detectDrive_withSpc (d : DriveId) (x : BitVec 4) (s : State) (l : List Frame) :
    detectDrive d x (s.withSpc l) = (detectDrive d x s).withSpc l := by
  rw [detectDrive, detectDrive]
  split
  · cases d <;> rfl
  · rfl

theorem detect_reset_present {x : BitVec 4} :
    (Drive.reset.detect x).present = true ↔ 1 ≤ x.toNat ∧ x.toNat ≤ 5 := by
  rw [← detected_iff, Drive.detect]
  split <;> simp [Drive.reset, *]

/-- The geometry index of a detected drive is its type code, which fits the three bits (10 R19). -/
theorem detect_reset_geom {x : BitVec 4} (h : (Drive.reset.detect x).present = true) :
    (Drive.reset.detect x).geom.toNat = x.toNat := by
  have hx := detect_reset_present.mp h
  rw [Drive.detect, if_pos (detected_iff.mpr hx)]
  exact (BitVec.toNat_setWidth 3 x).trans (Nat.mod_eq_of_lt (by omega))

theorem detect_reset_lock (x : BitVec 4) : (Drive.reset.detect x).lock = false := by
  rw [Drive.detect]
  split <;> rfl

-- INIT at every place

section Init

variable {s : State} {v : Byte} {below : List Frame}

theorem execSeqInit_start (hs : s.reg.spc = .init .start :: below) :
    execSeqInit s = .next (s.didRead (.cfgRead s.cfg.cfgIndex (answer s).1)
      { s.reg with spc := .init (.types (answer s).1) :: below }) := by
  rw [execSeqInit, hs]
  simp [cfgRead, emit, State.withSpc, State.didRead]

theorem execSeqInit_types (hs : s.reg.spc = .init (.types v) :: below) :
    execSeqInit s = .next ((detectDrive .d0 (v.extractLsb' 4 4) s).withSpc (.init (.second v) :: below)) := by
  rw [execSeqInit, hs]

theorem execSeqInit_second (hs : s.reg.spc = .init (.second v) :: below) :
    execSeqInit s = .next ((detectDrive .d1 (v.extractLsb' 0 4) s).withSpc (.init .install :: below)) := by
  rw [execSeqInit, hs]

theorem execSeqInit_install (hs : s.reg.spc = .init .install :: below) :
    execSeqInit s = .next (s.turned { s.reg with ie := true, spc := [.idle] }) := by
  rw [execSeqInit, hs]
  rfl

end Init

/-- Settles O13, place by place; at each drive's place it splits on the detection of its code. -/
theorem initDetectsAndEnables : Obligations.InitDetectsAndEnables := by
  intro s below v t0 t1
  refine ⟨execSeqInit_start, fun hs hlow hhigh => ?drive0, fun hs hno => ?slot0, fun hs hlow hhigh => ?drive1,
    fun hs hno => ?slot1, execSeqInit_install⟩
  case drive0 =>
    rw [exec, execSeqInit_types hs, detectDrive_detected (detected_iff.mpr ⟨hlow, hhigh⟩)]
    rfl
  case slot0 =>
    rw [exec, execSeqInit_types hs, detectDrive_undetected hno]
    rfl
  case drive1 =>
    rw [exec, execSeqInit_second hs, detectDrive_detected (detected_iff.mpr ⟨hlow, hhigh⟩)]
    rfl
  case slot1 =>
    rw [exec, execSeqInit_second hs, detectDrive_undetected hno]
    rfl

-- Start-up (70 R231)

/-- A sequencer step from `s` with fuel for `m` instructions, and fewer than `m` whole steps after it, lead
to `t`. How many of the instructions share a step is left open, since it depends on their events. -/
def EndsWithin (m : Nat) (s t : State) : Prop :=
  ∃ k < m, ∀ fuel, m ≤ fuel → ∃ u, sequencerStep exec fuel s = .next u ∧ runs k u = .next t

theorem SequencerOnly.of_same {s u : State} (only : SequencerOnly s) (cfg : u.cfg = s.cfg := by simp)
    (issue : u.env.issue = s.env.issue := by simp) (sched : u.env.sched = s.env.sched := by simp) :
    SequencerOnly u := by
  obtain ⟨hconfig, hissue, hsched⟩ := only
  exact ⟨cfg ▸ hconfig, issue.trans hissue, sched.trans hsched⟩

theorem SequencerOnly.withSpc {s : State} (only : SequencerOnly s) (l : List Frame) : SequencerOnly (s.withSpc l) :=
  only.of_same

theorem SequencerOnly.detectDrive {s : State} (only : SequencerOnly s) (d : DriveId) (x : BitVec 4) :
    SequencerOnly (detectDrive d x s) := by
  rcases detectDrive_cases d x s with ⟨-, h⟩ | ⟨-, h⟩ <;> rw [h]
  · exact only.of_same
  · exact only

namespace EndsWithin

variable {m : Nat} {s t u : State} {f : Frame} {below : List Frame}

/-- The whole step is one with fuel 32 (`silentFuel`). -/
theorem exists_runs (h : EndsWithin m s t) (only : SequencerOnly s) (hm : m ≤ 32) :
    ∃ k ≤ m, runs k s = .next t := by
  obtain ⟨k, hk, hsteps⟩ := h
  obtain ⟨u, hstep, hrest⟩ := hsteps 32 hm
  exact ⟨k + 1, hk, (runs_succ k ((step_alone only.config only.alone).trans hstep)).trans hrest⟩

/-- The instruction that leads to the idle block ends its step. -/
theorem of_idle (hs : s.reg.spc = f :: below) (hf : f ≠ .idle) (hx : exec f.instr s = .next t)
    (idle : t.reg.spc = [.idle]) : EndsWithin 1 s t := by
  have hbusy : s.reg.spc.head? ≠ some .idle := by simpa [hs] using hf
  have hdone : stepDone s t = true := (stepDone_busy hbusy).mpr (.inr (by rw [idle]; rfl))
  refine ⟨0, Nat.one_pos, fun fuel hfuel => ⟨t, ?_, rfl⟩⟩
  obtain ⟨n, rfl⟩ := Nat.exists_eq_add_of_le' hfuel
  rw [sequencerStep_of_next (fetch_busy hs hf) hx, if_pos hdone]

/-- One more instruction before: it ends a step of its own with an event, or goes on in the same step. -/
theorem after (h : EndsWithin m u t) (only : SequencerOnly u) (hm : m ≤ 32) (hs : s.reg.spc = f :: below)
    (hf : f ≠ .idle) (hx : exec f.instr s = .next u) : EndsWithin (m + 1) s t := by
  obtain ⟨k, hk, hsteps⟩ := h
  have hfirst (n : Nat) : sequencerStep exec (n + 1) s = if stepDone s u then .next u else sequencerStep exec n u :=
    sequencerStep_of_next (fetch_busy hs hf) hx
  by_cases hdone : stepDone s u = true
  · obtain ⟨w, hstep, hrest⟩ := hsteps 32 hm
    have hrun : runs (k + 1) u = .next t :=
      (runs_succ k ((step_alone only.config only.alone).trans hstep)).trans hrest
    refine ⟨k + 1, Nat.succ_lt_succ hk, fun fuel hfuel => ⟨u, ?_, hrun⟩⟩
    obtain ⟨n, rfl⟩ := Nat.exists_eq_add_of_le' (Nat.le_of_add_left_le hfuel)
    rw [hfirst, if_pos hdone]
  · refine ⟨k, Nat.lt_succ_of_lt hk, fun fuel hfuel => ?_⟩
    obtain ⟨n, rfl⟩ := Nat.exists_eq_add_of_le' (Nat.le_of_add_left_le hfuel)
    obtain ⟨w, hstep, hrest⟩ := hsteps n (Nat.le_of_succ_le_succ hfuel)
    exact ⟨w, by rw [hfirst, if_neg hdone, hstep], hrest⟩

end EndsWithin

/-- The block at the end of INIT: interrupts enabled, idle (47 R190). -/
def State.initialized (s : State) : State := s.turned { s.reg with ie := true, spc := [.idle] }

theorem State.initialized_withSpc (s : State) (l : List Frame) : (s.withSpc l).initialized = s.initialized := rfl

/-- INIT's last instruction ends it. -/
theorem init_installs {s : State} {below : List Frame} (hs : s.reg.spc = .init .install :: below) :
    EndsWithin 1 s s.initialized :=
  .of_idle hs (by simp) (execSeqInit_install hs) rfl

theorem init_detects_second {s : State} {v : Byte} {below : List Frame} (only : SequencerOnly s)
    (hs : s.reg.spc = .init (.second v) :: below) :
    EndsWithin 2 s (detectDrive .d1 (v.extractLsb' 0 4) s).initialized := by
  have only' := (only.detectDrive .d1 (v.extractLsb' 0 4)).withSpc (.init .install :: below)
  have hrest := init_installs (s := (detectDrive .d1 (v.extractLsb' 0 4) s).withSpc (.init .install :: below)) rfl
  rw [State.initialized_withSpc] at hrest
  exact hrest.after only' (by decide) hs (by simp) (execSeqInit_second hs)

theorem init_detects_both {s : State} {v : Byte} {below : List Frame} (only : SequencerOnly s)
    (hs : s.reg.spc = .init (.types v) :: below) :
    EndsWithin 3 s (detectDrive .d1 (v.extractLsb' 0 4) (detectDrive .d0 (v.extractLsb' 4 4) s)).initialized := by
  have only' := (only.detectDrive .d0 (v.extractLsb' 4 4)).withSpc (.init (.second v) :: below)
  have hrest := init_detects_second only' rfl
  rw [detectDrive_withSpc, State.initialized_withSpc] at hrest
  exact hrest.after only' (by decide) hs (by simp) (execSeqInit_types hs)

/-- INIT's four instructions lead to the idle block with `IE` set and each record as its detection left it. -/
theorem init_endsWithin {s : State} (only : SequencerOnly s) {below : List Frame}
    (hs : s.reg.spc = .init .start :: below) :
    ∃ t, EndsWithin 4 s t ∧ t.reg =
      { (s.reg.setDrv .d0 (s.reg.drv0.detect ((answer s).1.extractLsb' 4 4))).setDrv .d1
          (s.reg.drv1.detect ((answer s).1.extractLsb' 0 4)) with
        ie := true
        spc := [.idle] } := by
  have only' : SequencerOnly (s.didRead (.cfgRead s.cfg.cfgIndex (answer s).1)
      { s.reg with spc := .init (.types (answer s).1) :: below }) := only.of_same
  refine ⟨_, (init_detects_both only' rfl).after only' (by decide) hs (by simp) (execSeqInit_start hs), ?_⟩
  rw [State.initialized, State.turned_reg, detectDrive_reg, State.drv_d1, detectDrive_reg]
  rfl

/-- Settles O38: INIT ends within four instructions, so within four steps, each drive detected or absent. -/
theorem initEndsIdleWithDrivesDetected : Obligations.InitEndsIdleWithDrivesDetected := by
  intro s v rest hconfig halone hreset hanswers t0 t1
  have hanswer : (answer s).1 = v := by simp [answer, hanswers]
  have only : SequencerOnly s := ⟨hconfig, halone⟩
  obtain ⟨t, hends, hreg⟩ := init_endsWithin only (below := []) (by rw [hreset]; rfl)
  obtain ⟨k, hk, hrun⟩ := hends.exists_runs only (by decide)
  rw [hanswer, hreset] at hreg
  refine ⟨k, t, hk, hrun, ?_⟩
  rw [hreg]
  exact ⟨rfl, rfl, rfl, detect_reset_present, detect_reset_present, detect_reset_geom, detect_reset_geom,
    detect_reset_lock t0, detect_reset_lock t1, rfl, rfl⟩

end Sys2Proof.Machine
end

section
/-! PROOF. The drives do not interfere (60 R219): a sequence running for one drive leaves the other's record. -/

namespace Sys2Proof.Machine

/-- The writers of 10 R18 that take their drive from the handle or from INIT's nibbles, and the rows issued by
hand, step no frame that has a drive. -/
theorem Frame.instr_of_drive {f : Frame} {d : DriveId} (hd : f.drive? = some d) :
    f.instr ≠ .seqRead ∧ f.instr ≠ .seqSeek ∧ ¬ Detects f.instr
      ∧ ¬ ((∃ code cyl, f.instr = .fdcSisResult code cyl) ∨ ∃ others, f.instr = .st0Success others) := by
  cases f with
  | idle | init | opClose | opRead | opWrite | opSeek | opIllegal | copyblk => cases hd
  | _ => simp [Frame.instr, Detects]

/-- A change of a drive record that an instruction of the running sequence makes is a change of the drive
the sequence runs for: every other writer of 10 R18 has a frame without a drive, or none. -/
theorem DriveChange.eq_of_other {f : Frame} {below : List Frame} {s : State} {d e : DriveId} {r : Drive}
    (change : DriveChange f.instr s e r) (hs : s.reg.spc = f :: below) (hd : f.drive? = some d) (he : e ≠ d) :
    r = s.drv e := by
  have top {g : Frame} {l : List Frame} (hg : s.reg.spc = g :: l) : g.drive? = some d := by
    obtain ⟨rfl, -⟩ := List.cons.inj (hs.symm.trans hg)
    exact hd
  have same {g : Frame} {l : List Frame} (hg : s.reg.spc = g :: l) (hge : g.drive? = some e) : False :=
    he (Option.some.inj (hge.symm.trans (top hg)))
  obtain ⟨hread, hseek, hdetects, hissued⟩ := Frame.instr_of_drive hd
  cases change with
  | unchanged => rfl
  | sought _ _ _ hplace => exact (same hplace rfl).elim
  | rehomed _ _ hplace => exact (same hplace rfl).elim
  | fetched _ _ _ _ hplace => exact (same hplace rfl).elim
  | opened _ _ hplace => cases top hplace
  | closed _ _ hplace => cases top hplace
  | advanced hi => exact absurd hi hread
  | positioned hi => exact absurd hi hseek
  | constructed _ hi => exact absurd hi hdetects
  | issued _ _ hi => exact absurd hi hissued

/-- Settles O54, from the changes an instruction can make of a drive record. -/
theorem otherDriveIsUntouched : Obligations.OtherDriveIsUntouched := by
  intro s t f below d e hs hd he h
  exact ((exec_effect h).driveChange e).eq_of_other hs hd he

end Sys2Proof.Machine
end
